-- ==== Sys2Proof/Word.lean ====
section
/-! DEFINITION. The word types of the block (spec/00_scope.md R12: widths are stated at each value). -/

namespace Sys2Proof

/-- `u8`: one byte of the stream or of a frame (R12, R13). -/
abbrev Byte := BitVec 8

/-- `u16`: the raw temperature pattern (R12, R67). -/
abbrev Half := BitVec 16

/-- `u32`: a register, a record word, a counter (R12, R36). -/
abbrev Word := BitVec 32

/-- `u64`: a binary64 pattern (R12, R24). -/
abbrev Dword := BitVec 64

/-- A byte address of the register space, `0x00` to `0xFF` (R36). -/
abbrev Addr := BitVec 8

/-- A transaction as it travels on the bus: 41 bits (R54). -/
abbrev BusWord := BitVec 41

end Sys2Proof
end

