-- ==== Sys2Proof/Config.lean ====
section
/-! DEFINITION. What an implementation fixes: the parameters and the constants of spec/00_scope.md R10, the ID value of R3.
One free value stands here, `lengthBeyondWord`; no constant of the spec is left open (spec/93_implementation_defined.md part 1). -/

namespace Sys2Proof

/-- The two parameters of R10 that a model takes as arguments (R10, R11; decisions D8, D15). -/
structure Params where
  /-- `BUF_CAP`: the capacity of the sync buffer in bytes. -/
  bufCap : Nat
  /-- `OUT_DEPTH`: the capacity of the output queue in records. -/
  outDepth : Nat
deriving DecidableEq, Repr

/-- The values R10 gives: `BUF_CAP = 64`, `OUT_DEPTH = 4`. -/
def Params.standard : Params where
  bufCap := 64
  outDepth := 4

namespace Config

/-- `FRAME_LEN` (R10): bytes in a frame. -/
def frameLen : Nat := 40

/-- `CRC_SPAN` (R10): bytes 0 to 35 of the frame are covered by its CRC. -/
def crcSpan : Nat := 36

/-- `TAIL_KEEP` (R10, R81, D7): bytes kept when no magic is found. -/
def tailKeep : Nat := 3

/-- `MAGIC` (R10, R78) as the big-endian header word. -/
def magic : Word := 0xFE81FF56#32

/-- `MAGIC_BYTES` (R78): the magic in wire order. -/
def magicBytes : List Byte := [0xFE#8, 0x81#8, 0xFF#8, 0x56#8]

/-- `CRC_POLY` (R10, R71). -/
def crcPoly : Word := 0x04C11DB7#32

/-- `CRC_INIT` (R10, R72). -/
def crcInit : Word := 0xFFFFFFFF#32

/-- The identification value of R3 and R146. -/
def idValue : Word := 0x4B564801#32

/-- The default `threshold_gyro`, 0.01 (R10, D13). -/
def defaultThrGyro : Dword := 0x3F847AE147AE147B#64

/-- The default `threshold_accel`, 0.1 (R10, D13). -/
def defaultThrAccel : Dword := 0x3FB999999999999A#64

/-- The default `threshold_temp`, 1.0 (R10, D13). -/
def defaultThrTemp : Dword := 0x3FF0000000000000#64

/-- What BUF_LEN or OUT_COUNT reads where the length is 2^32 or more. R10 admits such an OUT_DEPTH, and R62 and R33 do not say
which 32 bits `zext_32` of such a length is: a free value, of the length alone (DESIGN CHOICE, assumption 19). -/
opaque lengthBeyondWord : Nat → Word

end Config

end Sys2Proof
end

