-- ==== Sys2Proof/Syntax.lean ====
section
/-! DEFINITION. The instruction set: one constructor for each of the 56 rows of spec/opcode_table.json.
The block's instruction is the bus transaction (spec/30_encoding.md R54, spec/10_state.md R19). A read takes no operand:
its WDATA is ignored (R54). A write carries its WDATA whole; which bits it uses is its meaning's affair (R65).
Beside it: the registers of the register map (R58) and the names by which a transaction is rejected (R175). -/

namespace Sys2Proof

/-- The 48 mapped registers of R58, in offset order. -/
inductive Reg where
  | id
  | ctrl
  | cmd
  | status
  | push
  | bufLen
  | thrGyroLo
  | thrGyroHi
  | thrAccelLo
  | thrAccelHi
  | thrTempLo
  | thrTempHi
  | crcData
  | crcValue
  | errInfo
  | cntFramesOk
  | cntBadHeader
  | cntCrcMismatch
  | cntEmitted
  | cntSuppressed
  | cntDiscarded
  | cntOverflow
  | outCount
  | outPop
  | outW0
  | outW1
  | outW2
  | outW3
  | outW4
  | outW5
  | outW6
  | outW7
  | outW8
  | outW9
  | outW10
  | diagW0
  | diagW1
  | diagW2
  | diagW3
  | diagW4
  | diagW5
  | diagW6
  | diagW7
  | diagW8
  | diagW9
  | diagW10
  | diagCode
  | diagCrcCalc
deriving DecidableEq, Repr

/-- The causes of a bus error (R175). The first four reject a transaction while it is decoded (R55); `outFull` is raised by
WR PUSH alone (R119). -/
inductive BusCause where
  | misaligned
  | unmapped
  | writeRo
  | readWo
  | outFull
deriving DecidableEq, Repr

/-- The three fields of a transaction (R54). -/
structure Transaction where
  /-- `W`, bit 40: 1 = write, 0 = read. -/
  write : Bool
  /-- `ADDR`, bits 39:32. -/
  addr : Addr
  /-- `WDATA`, bits 31:0. -/
  wdata : Word
deriving DecidableEq, Repr

/-- One constructor a row of the opcode table, in the table's order; the docstring names the row and the rule of its meaning. -/
inductive Instr where
  /-- `RD ID` (R146). -/
  | rdId
  /-- `RD CTRL` (R147). -/
  | rdCtrl
  /-- `WR CTRL` (R148). -/
  | wrCtrl (v : Word)
  /-- `WR CMD` (R149). -/
  | wrCmd (v : Word)
  /-- `RD STATUS` (R150). -/
  | rdStatus
  /-- `WR STATUS` (R151). -/
  | wrStatus (v : Word)
  /-- `WR PUSH` (R119). -/
  | wrPush (v : Word)
  /-- `RD BUF_LEN` (R152). -/
  | rdBufLen
  /-- `RD THR_GYRO_LO` (R153). -/
  | rdThrGyroLo
  /-- `WR THR_GYRO_LO` (R155). -/
  | wrThrGyroLo (v : Word)
  /-- `RD THR_GYRO_HI` (R154). -/
  | rdThrGyroHi
  /-- `WR THR_GYRO_HI` (R156). -/
  | wrThrGyroHi (v : Word)
  /-- `RD THR_ACCEL_LO` (R157). -/
  | rdThrAccelLo
  /-- `WR THR_ACCEL_LO` (R159). -/
  | wrThrAccelLo (v : Word)
  /-- `RD THR_ACCEL_HI` (R158). -/
  | rdThrAccelHi
  /-- `WR THR_ACCEL_HI` (R160). -/
  | wrThrAccelHi (v : Word)
  /-- `RD THR_TEMP_LO` (R161). -/
  | rdThrTempLo
  /-- `WR THR_TEMP_LO` (R163). -/
  | wrThrTempLo (v : Word)
  /-- `RD THR_TEMP_HI` (R162). -/
  | rdThrTempHi
  /-- `WR THR_TEMP_HI` (R164). -/
  | wrThrTempHi (v : Word)
  /-- `WR CRC_DATA` (R76). -/
  | wrCrcData (v : Word)
  /-- `RD CRC_VALUE` (R77). -/
  | rdCrcValue
  /-- `RD ERR_INFO` (R165). -/
  | rdErrInfo
  /-- `RD CNT_FRAMES_OK` (R166). -/
  | rdCntFramesOk
  /-- `RD CNT_BAD_HEADER` (R167). -/
  | rdCntBadHeader
  /-- `RD CNT_CRC_MISMATCH` (R168). -/
  | rdCntCrcMismatch
  /-- `RD CNT_EMITTED` (R169). -/
  | rdCntEmitted
  /-- `RD CNT_SUPPRESSED` (R170). -/
  | rdCntSuppressed
  /-- `RD CNT_DISCARDED` (R171). -/
  | rdCntDiscarded
  /-- `RD CNT_OVERFLOW` (R172). -/
  | rdCntOverflow
  /-- `RD OUT_COUNT` (R120). -/
  | rdOutCount
  /-- `WR OUT_POP` (R121). -/
  | wrOutPop (v : Word)
  /-- `RD OUT_W0` (R122). -/
  | rdOutW0
  /-- `RD OUT_W1` (R123). -/
  | rdOutW1
  /-- `RD OUT_W2` (R124). -/
  | rdOutW2
  /-- `RD OUT_W3` (R125). -/
  | rdOutW3
  /-- `RD OUT_W4` (R126). -/
  | rdOutW4
  /-- `RD OUT_W5` (R127). -/
  | rdOutW5
  /-- `RD OUT_W6` (R128). -/
  | rdOutW6
  /-- `RD OUT_W7` (R129). -/
  | rdOutW7
  /-- `RD OUT_W8` (R130). -/
  | rdOutW8
  /-- `RD OUT_W9` (R131). -/
  | rdOutW9
  /-- `RD OUT_W10` (R132). -/
  | rdOutW10
  /-- `RD DIAG_W0` (R133). -/
  | rdDiagW0
  /-- `RD DIAG_W1` (R134). -/
  | rdDiagW1
  /-- `RD DIAG_W2` (R135). -/
  | rdDiagW2
  /-- `RD DIAG_W3` (R136). -/
  | rdDiagW3
  /-- `RD DIAG_W4` (R137). -/
  | rdDiagW4
  /-- `RD DIAG_W5` (R138). -/
  | rdDiagW5
  /-- `RD DIAG_W6` (R139). -/
  | rdDiagW6
  /-- `RD DIAG_W7` (R140). -/
  | rdDiagW7
  /-- `RD DIAG_W8` (R141). -/
  | rdDiagW8
  /-- `RD DIAG_W9` (R142). -/
  | rdDiagW9
  /-- `RD DIAG_W10` (R143). -/
  | rdDiagW10
  /-- `RD DIAG_CODE` (R144). -/
  | rdDiagCode
  /-- `RD DIAG_CRC_CALC` (R145). -/
  | rdDiagCrcCalc
deriving DecidableEq, Repr

end Sys2Proof
end

