-- ==== Sys2Proof/WellFormed.lean ====
section
/-! DEFINITION. What is well-formed: the implementation parameters (spec/00_scope.md R11), a transaction
(spec/30_encoding.md R55, R58, R66), an instruction.
The lists below are the access column of R58 written out; the decoder of Decode.lean is written from the rows of
spec/opcode_table.json, and Laws/Encoding.lean relates the two. -/

namespace Sys2Proof

/-- The configurations a model admits: `BUF_CAP ≥ 40` and `OUT_DEPTH ≥ 1` (R11, U7, U10). -/
def Params.wf (p : Params) : Bool :=
  decide (Config.frameLen ≤ p.bufCap) && decide (1 ≤ p.outDepth)

/-- An address is aligned when `ADDR[1:0] = 0` (R44, R55 step 1). -/
def Addr.aligned (a : Addr) : Bool :=
  a.toNat % 4 == 0

/-- The offsets of the 36 RO registers of R58 (listed in R175, code 3). -/
def readOnlyOffsets : List Nat :=
  [0x00, 0x14, 0x34, 0x38] ++
  [0x40, 0x44, 0x48, 0x4C, 0x50, 0x54, 0x58, 0x5C] ++
  [0x80, 0x84, 0x88, 0x8C, 0x90, 0x94, 0x98, 0x9C, 0xA0, 0xA4, 0xA8] ++
  [0xC0, 0xC4, 0xC8, 0xCC, 0xD0, 0xD4, 0xD8, 0xDC, 0xE0, 0xE4, 0xE8, 0xEC, 0xF0]

/-- The offsets of the 4 WO registers of R58 (listed in R175, code 4): CMD, PUSH, CRC_DATA, OUT_POP. -/
def writeOnlyOffsets : List Nat := [0x08, 0x10, 0x30, 0x60]

/-- The offsets of the 8 registers of R58 that can be both read and written: CTRL, STATUS, the six threshold halves. -/
def readWriteOffsets : List Nat := [0x04, 0x0C, 0x18, 0x1C, 0x20, 0x24, 0x28, 0x2C]

/-- R58 names a register at the slot (R55 step 2). -/
def Addr.mapped (a : Addr) : Bool :=
  readOnlyOffsets.contains a.toNat || writeOnlyOffsets.contains a.toNat || readWriteOffsets.contains a.toNat

/-- A transaction that names a row of the opcode table: it passes the four checks of R55. Its WDATA plays no part: no bit of
it is reserved in the sense of being refused (R65, R66). -/
def Transaction.wellFormed (t : Transaction) : Bool :=
  t.addr.aligned && t.addr.mapped &&
    !(t.write && readOnlyOffsets.contains t.addr.toNat) &&
    !(!t.write && writeOnlyOffsets.contains t.addr.toNat)

/-- Every instruction is well-formed: a write's operand is 32 bits by its type, and the block refuses no value of it
(R65: "Bits not named are ignored and have no effect"; R66: no encoding that is reserved but accepted). -/
def Instr.wellFormed (_ : Instr) : Bool := true

end Sys2Proof
end

