-- ==== Sys2Proof/Decode.lean ====
section
/-! DEFINITION. Decoding and encoding a transaction (spec/30_encoding.md R54, R55, R56, R58; spec/opcode_table.json). -/

namespace Sys2Proof

/-- The fields of a 41-bit transaction word: W is bit 40, ADDR bits 39:32, WDATA bits 31:0 (R54). -/
def Transaction.ofWord (x : BusWord) : Transaction where
  write := x.getLsbD 40
  addr := x.extractLsb' 32 8
  wdata := x.extractLsb' 0 32

/-- The 41-bit word of a transaction's fields (R54). -/
def Transaction.toWord (t : Transaction) : BusWord :=
  (BitVec.ofBool t.write ++ t.addr ++ t.wdata : BitVec (1 + 8 + 32))

/-- The register at a slot, `none` where the slot is unmapped (R58). -/
def regAt (a : Addr) : Option Reg :=
  match a.toNat with
  | 0x00 => some .id
  | 0x04 => some .ctrl
  | 0x08 => some .cmd
  | 0x0C => some .status
  | 0x10 => some .push
  | 0x14 => some .bufLen
  | 0x18 => some .thrGyroLo
  | 0x1C => some .thrGyroHi
  | 0x20 => some .thrAccelLo
  | 0x24 => some .thrAccelHi
  | 0x28 => some .thrTempLo
  | 0x2C => some .thrTempHi
  | 0x30 => some .crcData
  | 0x34 => some .crcValue
  | 0x38 => some .errInfo
  | 0x40 => some .cntFramesOk
  | 0x44 => some .cntBadHeader
  | 0x48 => some .cntCrcMismatch
  | 0x4C => some .cntEmitted
  | 0x50 => some .cntSuppressed
  | 0x54 => some .cntDiscarded
  | 0x58 => some .cntOverflow
  | 0x5C => some .outCount
  | 0x60 => some .outPop
  | 0x80 => some .outW0
  | 0x84 => some .outW1
  | 0x88 => some .outW2
  | 0x8C => some .outW3
  | 0x90 => some .outW4
  | 0x94 => some .outW5
  | 0x98 => some .outW6
  | 0x9C => some .outW7
  | 0xA0 => some .outW8
  | 0xA4 => some .outW9
  | 0xA8 => some .outW10
  | 0xC0 => some .diagW0
  | 0xC4 => some .diagW1
  | 0xC8 => some .diagW2
  | 0xCC => some .diagW3
  | 0xD0 => some .diagW4
  | 0xD4 => some .diagW5
  | 0xD8 => some .diagW6
  | 0xDC => some .diagW7
  | 0xE0 => some .diagW8
  | 0xE4 => some .diagW9
  | 0xE8 => some .diagW10
  | 0xEC => some .diagCode
  | 0xF0 => some .diagCrcCalc
  | _ => none

/-- The read row of a register, `none` for the four WO registers (R58, opcode table). -/
def readRow : Reg → Option Instr
  | .id => some .rdId
  | .ctrl => some .rdCtrl
  | .cmd => none
  | .status => some .rdStatus
  | .push => none
  | .bufLen => some .rdBufLen
  | .thrGyroLo => some .rdThrGyroLo
  | .thrGyroHi => some .rdThrGyroHi
  | .thrAccelLo => some .rdThrAccelLo
  | .thrAccelHi => some .rdThrAccelHi
  | .thrTempLo => some .rdThrTempLo
  | .thrTempHi => some .rdThrTempHi
  | .crcData => none
  | .crcValue => some .rdCrcValue
  | .errInfo => some .rdErrInfo
  | .cntFramesOk => some .rdCntFramesOk
  | .cntBadHeader => some .rdCntBadHeader
  | .cntCrcMismatch => some .rdCntCrcMismatch
  | .cntEmitted => some .rdCntEmitted
  | .cntSuppressed => some .rdCntSuppressed
  | .cntDiscarded => some .rdCntDiscarded
  | .cntOverflow => some .rdCntOverflow
  | .outCount => some .rdOutCount
  | .outPop => none
  | .outW0 => some .rdOutW0
  | .outW1 => some .rdOutW1
  | .outW2 => some .rdOutW2
  | .outW3 => some .rdOutW3
  | .outW4 => some .rdOutW4
  | .outW5 => some .rdOutW5
  | .outW6 => some .rdOutW6
  | .outW7 => some .rdOutW7
  | .outW8 => some .rdOutW8
  | .outW9 => some .rdOutW9
  | .outW10 => some .rdOutW10
  | .diagW0 => some .rdDiagW0
  | .diagW1 => some .rdDiagW1
  | .diagW2 => some .rdDiagW2
  | .diagW3 => some .rdDiagW3
  | .diagW4 => some .rdDiagW4
  | .diagW5 => some .rdDiagW5
  | .diagW6 => some .rdDiagW6
  | .diagW7 => some .rdDiagW7
  | .diagW8 => some .rdDiagW8
  | .diagW9 => some .rdDiagW9
  | .diagW10 => some .rdDiagW10
  | .diagCode => some .rdDiagCode
  | .diagCrcCalc => some .rdDiagCrcCalc

/-- The write row of a register with its operand, `none` for the RO registers (R58, opcode table). -/
def writeRow (v : Word) : Reg → Option Instr
  | .id => none
  | .ctrl => some (.wrCtrl v)
  | .cmd => some (.wrCmd v)
  | .status => some (.wrStatus v)
  | .push => some (.wrPush v)
  | .bufLen => none
  | .thrGyroLo => some (.wrThrGyroLo v)
  | .thrGyroHi => some (.wrThrGyroHi v)
  | .thrAccelLo => some (.wrThrAccelLo v)
  | .thrAccelHi => some (.wrThrAccelHi v)
  | .thrTempLo => some (.wrThrTempLo v)
  | .thrTempHi => some (.wrThrTempHi v)
  | .crcData => some (.wrCrcData v)
  | .crcValue => none
  | .errInfo => none
  | .cntFramesOk => none
  | .cntBadHeader => none
  | .cntCrcMismatch => none
  | .cntEmitted => none
  | .cntSuppressed => none
  | .cntDiscarded => none
  | .cntOverflow => none
  | .outCount => none
  | .outPop => some (.wrOutPop v)
  | .outW0 => none
  | .outW1 => none
  | .outW2 => none
  | .outW3 => none
  | .outW4 => none
  | .outW5 => none
  | .outW6 => none
  | .outW7 => none
  | .outW8 => none
  | .outW9 => none
  | .outW10 => none
  | .diagW0 => none
  | .diagW1 => none
  | .diagW2 => none
  | .diagW3 => none
  | .diagW4 => none
  | .diagW5 => none
  | .diagW6 => none
  | .diagW7 => none
  | .diagW8 => none
  | .diagW9 => none
  | .diagW10 => none
  | .diagCode => none
  | .diagCrcCalc => none

/-- R55, steps 1 to 5 in order: the instruction a transaction names, or the cause of the bus error that rejects it. -/
def decodeTransaction (t : Transaction) : Except BusCause Instr :=
  if t.addr.extractLsb' 0 2 ≠ 0#2 then .error .misaligned
  else
    match regAt t.addr with
    | none => .error .unmapped
    | some r =>
      if t.write then
        match writeRow t.wdata r with
        | some i => .ok i
        | none => .error .writeRo
      else
        match readRow r with
        | some i => .ok i
        | none => .error .readWo

/-- Decoding is total on the 41-bit words: an instruction, or a rejection by name (R55). -/
def decode (x : BusWord) : Except BusCause Instr :=
  decodeTransaction (Transaction.ofWord x)

/-- The W and ADDR of each row, and the WDATA that R56 writes: the operand of a write, 0 for a read. -/
def encodeTransaction : Instr → Transaction
  | .rdId => ⟨false, 0x00#8, 0#32⟩
  | .rdCtrl => ⟨false, 0x04#8, 0#32⟩
  | .wrCtrl v => ⟨true, 0x04#8, v⟩
  | .wrCmd v => ⟨true, 0x08#8, v⟩
  | .rdStatus => ⟨false, 0x0C#8, 0#32⟩
  | .wrStatus v => ⟨true, 0x0C#8, v⟩
  | .wrPush v => ⟨true, 0x10#8, v⟩
  | .rdBufLen => ⟨false, 0x14#8, 0#32⟩
  | .rdThrGyroLo => ⟨false, 0x18#8, 0#32⟩
  | .wrThrGyroLo v => ⟨true, 0x18#8, v⟩
  | .rdThrGyroHi => ⟨false, 0x1C#8, 0#32⟩
  | .wrThrGyroHi v => ⟨true, 0x1C#8, v⟩
  | .rdThrAccelLo => ⟨false, 0x20#8, 0#32⟩
  | .wrThrAccelLo v => ⟨true, 0x20#8, v⟩
  | .rdThrAccelHi => ⟨false, 0x24#8, 0#32⟩
  | .wrThrAccelHi v => ⟨true, 0x24#8, v⟩
  | .rdThrTempLo => ⟨false, 0x28#8, 0#32⟩
  | .wrThrTempLo v => ⟨true, 0x28#8, v⟩
  | .rdThrTempHi => ⟨false, 0x2C#8, 0#32⟩
  | .wrThrTempHi v => ⟨true, 0x2C#8, v⟩
  | .wrCrcData v => ⟨true, 0x30#8, v⟩
  | .rdCrcValue => ⟨false, 0x34#8, 0#32⟩
  | .rdErrInfo => ⟨false, 0x38#8, 0#32⟩
  | .rdCntFramesOk => ⟨false, 0x40#8, 0#32⟩
  | .rdCntBadHeader => ⟨false, 0x44#8, 0#32⟩
  | .rdCntCrcMismatch => ⟨false, 0x48#8, 0#32⟩
  | .rdCntEmitted => ⟨false, 0x4C#8, 0#32⟩
  | .rdCntSuppressed => ⟨false, 0x50#8, 0#32⟩
  | .rdCntDiscarded => ⟨false, 0x54#8, 0#32⟩
  | .rdCntOverflow => ⟨false, 0x58#8, 0#32⟩
  | .rdOutCount => ⟨false, 0x5C#8, 0#32⟩
  | .wrOutPop v => ⟨true, 0x60#8, v⟩
  | .rdOutW0 => ⟨false, 0x80#8, 0#32⟩
  | .rdOutW1 => ⟨false, 0x84#8, 0#32⟩
  | .rdOutW2 => ⟨false, 0x88#8, 0#32⟩
  | .rdOutW3 => ⟨false, 0x8C#8, 0#32⟩
  | .rdOutW4 => ⟨false, 0x90#8, 0#32⟩
  | .rdOutW5 => ⟨false, 0x94#8, 0#32⟩
  | .rdOutW6 => ⟨false, 0x98#8, 0#32⟩
  | .rdOutW7 => ⟨false, 0x9C#8, 0#32⟩
  | .rdOutW8 => ⟨false, 0xA0#8, 0#32⟩
  | .rdOutW9 => ⟨false, 0xA4#8, 0#32⟩
  | .rdOutW10 => ⟨false, 0xA8#8, 0#32⟩
  | .rdDiagW0 => ⟨false, 0xC0#8, 0#32⟩
  | .rdDiagW1 => ⟨false, 0xC4#8, 0#32⟩
  | .rdDiagW2 => ⟨false, 0xC8#8, 0#32⟩
  | .rdDiagW3 => ⟨false, 0xCC#8, 0#32⟩
  | .rdDiagW4 => ⟨false, 0xD0#8, 0#32⟩
  | .rdDiagW5 => ⟨false, 0xD4#8, 0#32⟩
  | .rdDiagW6 => ⟨false, 0xD8#8, 0#32⟩
  | .rdDiagW7 => ⟨false, 0xDC#8, 0#32⟩
  | .rdDiagW8 => ⟨false, 0xE0#8, 0#32⟩
  | .rdDiagW9 => ⟨false, 0xE4#8, 0#32⟩
  | .rdDiagW10 => ⟨false, 0xE8#8, 0#32⟩
  | .rdDiagCode => ⟨false, 0xEC#8, 0#32⟩
  | .rdDiagCrcCalc => ⟨false, 0xF0#8, 0#32⟩

/-- The word of an instruction (R54, R56). -/
def encode (i : Instr) : BusWord :=
  (encodeTransaction i).toWord

/-- An instruction's bits as spec/opcode_table.json numbers them, cut to `nbits`, as the one 41-bit word of R54; `none` where
a bit above bit 40 is set, which no transaction has. -/
def busWordOfTable (nbits w : Nat) : Option BusWord :=
  if w % 2 ^ nbits < 2 ^ 41 then some (BitVec.ofNat 41 (w % 2 ^ nbits)) else none

/-- The instruction the decoder reads from an instruction whose bits are `w`, numbered as spec/opcode_table.json numbers them.
The block has one word a transaction, so bit 0 is bit 0 of that word (R54). -/
def decodeTableWord (nbits w : Nat) : Option Instr :=
  match busWordOfTable nbits w with
  | none => none
  | some x =>
    match decode x with
    | .ok i => some i
    | .error _ => none

end Sys2Proof
end

