-- ==== Sys2Proof/Machine/State.lean ====
section
/-! DEFINITION. The state of one instance of the block (spec/10_state.md R21 to R33), its value after a hardware reset, and the
reasons for which a step can stop. State is plain data. -/

namespace Sys2Proof.Machine

/-- A record: the ten big-endian words of a frame and the FLAGS word (spec/30_encoding.md R69). -/
structure Record where
  w0 : Word
  w1 : Word
  w2 : Word
  w3 : Word
  w4 : Word
  w5 : Word
  w6 : Word
  w7 : Word
  w8 : Word
  w9 : Word
  w10 : Word
deriving DecidableEq, Repr

/-- The record of eleven zero words, the reset value of `diag_rec` (R21). -/
def Record.zero : Record where
  w0 := 0#32
  w1 := 0#32
  w2 := 0#32
  w3 := 0#32
  w4 := 0#32
  w5 := 0#32
  w6 := 0#32
  w7 := 0#32
  w8 := 0#32
  w9 := 0#32
  w10 := 0#32

/-- The filter's snapshot of the last emitted record: six binary32 patterns and the s16 temperature pattern (R26). -/
structure Snapshot where
  gx : Word
  gy : Word
  gz : Word
  ax : Word
  ay : Word
  az : Word
  temp : Half
deriving DecidableEq, Repr

/-- The configuration record (R23): the two bits of CTRL and the three thresholds, each a binary64 pattern (R24). -/
structure Settings where
  validateCrc : Bool
  acceptBadCrc : Bool
  thrGyro : Dword
  thrAccel : Dword
  thrTemp : Dword
deriving DecidableEq, Repr

/-- The configuration after a hardware reset (R21, R194). -/
def Settings.standard : Settings where
  validateCrc := true
  acceptBadCrc := false
  thrGyro := Config.defaultThrGyro
  thrAccel := Config.defaultThrAccel
  thrTemp := Config.defaultThrTemp

/-- What is kept of the last decode attempt (R28): `diag_rec`, `diag_code`, `diag_crc_calc`. -/
structure Diag where
  record : Record
  code : Word
  crcCalc : Word
deriving DecidableEq, Repr

/-- The diagnostic state after either reset (R21, R195). -/
def Diag.zero : Diag where
  record := Record.zero
  code := 0#32
  crcCalc := 0#32

/-- The four sticky bits (R30). -/
structure Sticky where
  badHeader : Bool
  crcMismatch : Bool
  overflow : Bool
  busError : Bool
deriving DecidableEq, Repr

/-- The sticky bits after either reset (R21, R195). -/
def Sticky.clear : Sticky where
  badHeader := false
  crcMismatch := false
  overflow := false
  busError := false

/-- The seven counters (R31). Their arithmetic is that of `u32`: it wraps. -/
structure Counters where
  framesOk : Word
  badHeader : Word
  crcMismatch : Word
  emitted : Word
  suppressed : Word
  discarded : Word
  overflow : Word
deriving DecidableEq, Repr

/-- The counters after either reset and after CMD.CLEAR_COUNTERS (R31). -/
def Counters.zero : Counters where
  framesOk := 0#32
  badHeader := 0#32
  crcMismatch := 0#32
  emitted := 0#32
  suppressed := 0#32
  discarded := 0#32
  overflow := 0#32

/-- The answer to a transaction (spec/30_encoding.md R54). -/
structure Response where
  rdata : Word
  err : Bool
deriving DecidableEq, Repr

/-- What the host does to the block: it issues a transaction word (R54), or drives the hardware reset input, which takes effect
between transactions (spec/70_reset_and_hazards.md R194). -/
inductive HostEvent where
  | transaction (x : BusWord)
  | hardwareReset
deriving DecidableEq, Repr

/-- One instance of the block. All fields but `params`, `pending` and `resp` are the tuple of R21. -/
structure State where
  /-- The implementation parameters (R10). MODEL's own field, written by nothing (assumption 3). -/
  params : Params
  /-- The configuration record (R23). -/
  cfg : Settings
  /-- The synchronizer's pending bytes, oldest first (R25). -/
  buf : List Byte
  /-- FilterState (R26): `none` is the spec's own NONE, "absent at start". -/
  filt : Option Snapshot
  /-- The emitted records not yet taken by the host, oldest first (R27). -/
  outq : List Record
  /-- The last decode attempt (R28). -/
  diag : Diag
  /-- The accumulator of the stand-alone CRC port (R29). -/
  crcAcc : Word
  /-- The sticky bits (R30). -/
  seen : Sticky
  /-- The counters (R31). -/
  cnt : Counters
  /-- The last bus error (R32). -/
  errInfo : Word
  /-- The events the host has issued and the block has not yet taken, in issue order (R49, R193). MODEL's own field
  (DESIGN CHOICE, assumption 1). -/
  pending : List HostEvent
  /-- The response to the last transaction, `none` while none has been answered since a hardware reset (R54). MODEL's own field
  (DESIGN CHOICE, assumption 2). -/
  resp : Option Response
deriving DecidableEq, Repr

/-- The machine after a hardware reset (R21, R194), with the parameter values of R10 and nothing issued by the host. -/
def State.reset : State where
  params := Params.standard
  cfg := Settings.standard
  buf := []
  filt := none
  outq := []
  diag := Diag.zero
  crcAcc := Config.crcInit
  seen := Sticky.clear
  cnt := Counters.zero
  errInfo := 0#32
  pending := []
  resp := none

/-- Why the machine would stop with a fault. There is no such reason, so the type has no constructor: a bus error is answered
and the block goes on (spec/60_exceptions.md R174), and "The block has no state in which it stops taking transactions, no
stuck state" (R193). Safe: it allows no stop that the block could show. -/
inductive Fault
deriving DecidableEq, Repr

/-- Why the model gives a step no meaning. -/
inductive Refusal where
  /-- Raised by exec's arm of an instruction that has no meaning yet. Safe. No arm raises it in this model. -/
  | notModelled (mnemonic : String)
  /-- Raised by `step` where the parameters are not those of R11 (`BUF_CAP` below 40, or `OUT_DEPTH` 0): "a model must refuse
  such a configuration". Safe: such a block is not the spec's. -/
  | unsupportedParameters
deriving DecidableEq, Repr

end Sys2Proof.Machine
end

