-- ==== Sys2Proof/Machine/Operands.lean ====
section
/-! DEFINITION. Operand assembly (spec/30_encoding.md R65) and the bit-field and byte-order helpers of spec/00_scope.md R14. -/

namespace Sys2Proof.Machine

/-- `zext_32(b) << n` for a one-bit value (R14). -/
def flagBit (b : Bool) (n : Nat) : Word :=
  (BitVec.ofBool b).setWidth 32 <<< n

/-- The byte operand `b = WDATA[7:0]` of WR PUSH and WR CRC_DATA (R65). -/
def byteOperand (v : Word) : Byte :=
  v.extractLsb' 0 8

/-- Operand bit `WDATA[n]` of WR CTRL, WR CMD and WR STATUS (R65). -/
def bitOperand (v : Word) (n : Nat) : Bool :=
  v.getLsbD n

/-- `thr[31:0]`, the LO half of a threshold (spec/20_memory.md R42). -/
def lowHalf (d : Dword) : Word :=
  d.extractLsb' 0 32

/-- `thr[63:32]`, the HI half of a threshold (R42). -/
def highHalf (d : Dword) : Word :=
  d.extractLsb' 32 32

/-- `thr = HI ++ LO` (R42). -/
def joinHalves (hi lo : Word) : Dword :=
  (hi ++ lo : BitVec (32 + 32))

/-- `thr[31:0] <- v`; the other half is unchanged (R65, R155). -/
def withLowHalf (d : Dword) (v : Word) : Dword :=
  joinHalves (highHalf d) v

/-- `thr[63:32] <- v`; the other half is unchanged (R65, R156). -/
def withHighHalf (d : Dword) (v : Word) : Dword :=
  joinHalves v (lowHalf d)

/-- `B[i]` of a byte sequence (R13). Every use is inside the sequence; outside it the value is 0 and no rule reads it. -/
def byteAt (bs : List Byte) (i : Nat) : Byte :=
  bs.getD i 0#8

/-- `be32(B, i)`: four bytes, the first in bits 31:24 (R14). -/
def be32 (bs : List Byte) (i : Nat) : Word :=
  (byteAt bs i ++ byteAt bs (i + 1) ++ byteAt bs (i + 2) ++ byteAt bs (i + 3) : BitVec (8 + 8 + 8 + 8))

/-- The four bytes of a word in wire order, most significant first (R40). -/
def wireBytes (w : Word) : List Byte :=
  [w.extractLsb' 24 8, w.extractLsb' 16 8, w.extractLsb' 8 8, w.extractLsb' 0 8]

/-- `s16(v)`: a `u16` read as two's complement (R14). -/
def s16 (v : Half) : Int :=
  v.toInt

end Sys2Proof.Machine
end

