-- ==== Sys2Proof/Machine/Flags.lean ====
section
/-! DEFINITION. The derived signals (spec/10_state.md R33), the words of STATUS and CTRL, the validity flags and the FLAGS word of
a record (spec/30_encoding.md R59, R61, R70; spec/42_decoder.md R90). -/

namespace Sys2Proof.Machine

/-- SYNCED (R33): the buffer holds at least four bytes and starts with the magic. -/
def synced (s : State) : Bool :=
  decide (4 ≤ s.buf.length) && s.buf.take 4 == Config.magicBytes

/-- FILTER_VALID (R33). -/
def filterValid (s : State) : Bool :=
  s.filt.isSome

/-- OUT_AVAIL (R33). -/
def outAvail (s : State) : Bool :=
  decide (0 < s.outq.length)

/-- OUT_FULL (R33). -/
def outFull (s : State) : Bool :=
  decide (s.outq.length = s.params.outDepth)

/-- The word RD STATUS reads (R61, R150). -/
def statusWord (s : State) : Word :=
  flagBit (synced s) 0 ||| flagBit (filterValid s) 1 ||| flagBit (outAvail s) 2 ||| flagBit (outFull s) 3 |||
    flagBit s.seen.badHeader 8 ||| flagBit s.seen.crcMismatch 9 ||| flagBit s.seen.overflow 10 |||
    flagBit s.seen.busError 11

/-- The word RD CTRL reads (R59, R147). -/
def ctrlWord (c : Settings) : Word :=
  flagBit c.acceptBadCrc 1 ||| flagBit c.validateCrc 0

/-- `zext_32` of a length (R14, R62). The spec does not say what it is where the length does not fit 32 bits, which R10 admits
for an OUT_DEPTH of 2^32 or more: the value is free there (DESIGN CHOICE, assumption 19). -/
def lengthWord (n : Nat) : Word :=
  if n < 2 ^ 32 then BitVec.ofNat 32 n else Config.lengthBeyondWord n

/-- BUF_LEN as a register word (R33, R62); free from 2^32 bytes on (DESIGN CHOICE, assumption 19). -/
def bufLenWord (s : State) : Word :=
  lengthWord s.buf.length

/-- OUT_COUNT as a register word (R33, R62); free from 2^32 records on (DESIGN CHOICE, assumption 19). -/
def outCountWord (s : State) : Word :=
  lengthWord s.outq.length

/-- VALIDFLAGS (R90): each validity flag is its status bit inverted, at the same position; status bits 3 and 7 play no part. -/
def validFlags (st : Byte) : Word :=
  flagBit (!st.getLsbD 0) 0 ||| flagBit (!st.getLsbD 1) 1 ||| flagBit (!st.getLsbD 2) 2 |||
    flagBit (!st.getLsbD 4) 4 ||| flagBit (!st.getLsbD 5) 5 ||| flagBit (!st.getLsbD 6) 6

/-- The FLAGS word, record word W10 (R70, R85 step 5). -/
def flagsWord (st : Byte) (checked isMatch hdrOk : Bool) : Word :=
  validFlags st ||| flagBit checked 8 ||| flagBit isMatch 9 ||| flagBit hdrOk 10

end Sys2Proof.Machine
end

