-- ==== Sys2Proof/Machine/Ops.lean ====
section
/-! DEFINITION. The named operations over the state: answering a transaction, raising a bus error (the block's one exception,
spec/60_exceptions.md R174), the two resets, taking the host's next event. The block has no data memory (spec/10_state.md
R35), no trap and no return from one (R183, R184), so there is no memory operation and no return operation. -/

namespace Sys2Proof.Machine

/-- The response to a transaction (R54). -/
def State.answer (s : State) (rdata : Word) (err : Bool) : State :=
  { s with resp := some ⟨rdata, err⟩ }

/-- A successful read: `RDATA` is the register's value, `ERR = 0`, and no element of the state tuple changes (R47, R54). -/
def readAnswer (v : Word) (s : State) : Host.Outcome State Fault Refusal :=
  .next (s.answer v false)

/-- A successful write, its effect done: `RDATA = 0`, `ERR = 0` (R54). -/
def writeAnswer (s : State) : Host.Outcome State Fault Refusal :=
  .next (s.answer 0#32 false)

/-- The cause codes of R175. -/
def causeCode : BusCause → Word
  | .misaligned => 1#32
  | .unmapped => 2#32
  | .writeRo => 3#32
  | .readWo => 4#32
  | .outFull => 5#32

/-- The value of err_info for a bus error: ADDR in bits 7:0, CAUSE in bits 11:8, WRITE in bit 12 (R32, R174). -/
def errInfoWord (c : BusCause) (write : Bool) (addr : Addr) : Word :=
  addr.setWidth 32 ||| (causeCode c <<< 8) ||| flagBit write 12

/-- `raise BusError(c)` (R174): err_info and seen_bus_error are written, the answer is `RDATA = 0`, `ERR = 1`, and nothing else
changes. -/
def raiseBusError (c : BusCause) (write : Bool) (addr : Addr) (s : State) : State :=
  { s with
    errInfo := errInfoWord c write addr
    seen := { s.seen with busError := true }
    resp := some ⟨0#32, true⟩ }

/-- SOFTRESET() (R195): every element but the configuration takes its reset value, err_info too (DEDUCED, assumption
8). -/
def softReset (s : State) : State :=
  { s with
    buf := []
    filt := none
    outq := []
    diag := Diag.zero
    crcAcc := Config.crcInit
    seen := Sticky.clear
    cnt := Counters.zero
    errInfo := 0#32 }

/-- HWRESET() (R194): the configuration takes its defaults, then SOFTRESET(). No transaction is answered since
(DESIGN CHOICE, assumption 5). -/
def hardReset (s : State) : State :=
  softReset { s with cfg := Settings.standard, resp := none }

/-- The host's next event and the state in which it is performed: the event is no longer pending (R8, R49). -/
def nextEvent (s : State) : Option (HostEvent × State) :=
  match s.pending with
  | [] => none
  | e :: rest => some (e, { s with pending := rest })

/-- The host issues a transaction word as its next one. -/
def issueNext (x : BusWord) (s : State) : State :=
  { s with pending := .transaction x :: s.pending }

/-- The word RD OUT_Wn reads: a word of the head record, 0 when the queue is empty (R122 to R132, D24). -/
def outWord (word : Record → Word) (s : State) : Word :=
  match s.outq with
  | [] => 0#32
  | r :: _ => word r

end Sys2Proof.Machine
end

