-- ==== Sys2Proof/Machine/Control.lean ====
section
/-! DEFINITION. Identification, control, commands, status, buffer length (spec/45_control_registers.md R146 to R152). -/

namespace Sys2Proof.Machine

/-- `RD ID` (R146). -/
def execRdId (s : State) : Host.Outcome State Fault Refusal :=
  readAnswer Config.idValue s

/-- `RD CTRL` (R147). -/
def execRdCtrl (s : State) : Host.Outcome State Fault Refusal :=
  readAnswer (ctrlWord s.cfg) s

/-- `WR CTRL, v` (R148). -/
def execWrCtrl (v : Word) (s : State) : Host.Outcome State Fault Refusal :=
  writeAnswer { s with cfg := { s.cfg with validateCrc := bitOperand v 0, acceptBadCrc := bitOperand v 1 } }

/-- FLUSH_BUF (R60, R149): the bytes are not counted as discarded. -/
def flushBuf (s : State) : State :=
  { s with buf := [] }

/-- CLEAR_FILTER (R60, R149). -/
def clearFilter (s : State) : State :=
  { s with filt := none }

/-- CRC_INIT (R60, R149). -/
def crcInitPort (s : State) : State :=
  { s with crcAcc := Config.crcInit }

/-- CLEAR_COUNTERS (R60, R149): all seven. -/
def clearCounters (s : State) : State :=
  { s with cnt := Counters.zero }

/-- FLUSH_OUT (R60, R149). -/
def flushOut (s : State) : State :=
  { s with outq := [] }

/-- An action of CMD, performed when its bit is 1 (R149). -/
def actionIf (b : Bool) (act : State → State) (s : State) : State :=
  if b then act s else s

/-- The six actions of CMD in bit order 0 to 5 (R149). -/
def commandActions (v : Word) (s : State) : State :=
  actionIf (bitOperand v 5) flushOut
    (actionIf (bitOperand v 4) clearCounters
      (actionIf (bitOperand v 3) crcInitPort
        (actionIf (bitOperand v 2) clearFilter
          (actionIf (bitOperand v 1) flushBuf
            (actionIf (bitOperand v 0) softReset s)))))

/-- `WR CMD, v` (R149). -/
def execWrCmd (v : Word) (s : State) : Host.Outcome State Fault Refusal :=
  writeAnswer (commandActions v s)

/-- `RD STATUS` (R150). -/
def execRdStatus (s : State) : Host.Outcome State Fault Refusal :=
  readAnswer (statusWord s) s

/-- The sticky bits after a write of STATUS: a bit written with 1 is cleared, a bit written with 0 keeps its value (R151). -/
def clearSticky (v : Word) (k : Sticky) : Sticky where
  badHeader := k.badHeader && !bitOperand v 8
  crcMismatch := k.crcMismatch && !bitOperand v 9
  overflow := k.overflow && !bitOperand v 10
  busError := k.busError && !bitOperand v 11

/-- `WR STATUS, v` (R151). -/
def execWrStatus (v : Word) (s : State) : Host.Outcome State Fault Refusal :=
  writeAnswer { s with seen := clearSticky v s.seen }

/-- `RD BUF_LEN` (R152). -/
def execRdBufLen (s : State) : Host.Outcome State Fault Refusal :=
  readAnswer (bufLenWord s) s

end Sys2Proof.Machine
end

