-- ==== Sys2Proof/Machine/Counter.lean ====
section
/-! DEFINITION. Error information and the seven counters (spec/45_control_registers.md R165 to R172). -/

namespace Sys2Proof.Machine

/-- `RD ERR_INFO` (R165). -/
def execRdErrInfo (s : State) : Host.Outcome State Fault Refusal :=
  readAnswer s.errInfo s

/-- `RD CNT_FRAMES_OK` (R166). -/
def execRdCntFramesOk (s : State) : Host.Outcome State Fault Refusal :=
  readAnswer s.cnt.framesOk s

/-- `RD CNT_BAD_HEADER` (R167). -/
def execRdCntBadHeader (s : State) : Host.Outcome State Fault Refusal :=
  readAnswer s.cnt.badHeader s

/-- `RD CNT_CRC_MISMATCH` (R168). -/
def execRdCntCrcMismatch (s : State) : Host.Outcome State Fault Refusal :=
  readAnswer s.cnt.crcMismatch s

/-- `RD CNT_EMITTED` (R169). -/
def execRdCntEmitted (s : State) : Host.Outcome State Fault Refusal :=
  readAnswer s.cnt.emitted s

/-- `RD CNT_SUPPRESSED` (R170). -/
def execRdCntSuppressed (s : State) : Host.Outcome State Fault Refusal :=
  readAnswer s.cnt.suppressed s

/-- `RD CNT_DISCARDED` (R171). -/
def execRdCntDiscarded (s : State) : Host.Outcome State Fault Refusal :=
  readAnswer s.cnt.discarded s

/-- `RD CNT_OVERFLOW` (R172). -/
def execRdCntOverflow (s : State) : Host.Outcome State Fault Refusal :=
  readAnswer s.cnt.overflow s

end Sys2Proof.Machine
end

