-- ==== Sys2Proof/Machine/Crc.lean ====
section
/-! DEFINITION. The CRC engine: CRC-32/MPEG-2, most significant bit first, no reflection, no final XOR (spec/40_crc_engine.md R71
to R73). Pure functions, no state. -/

namespace Sys2Proof.Machine

/-- One of the eight shift rounds of CRCBYTE (R71). -/
def crcShift (acc : Word) : Word :=
  if acc.getLsbD 31 then (acc <<< 1) ^^^ Config.crcPoly else acc <<< 1

/-- `n` shift rounds. -/
def crcRounds : Nat → Word → Word
  | 0, acc => acc
  | n + 1, acc => crcRounds n (crcShift acc)

/-- `CRCBYTE(acc, b)` (R71). -/
def crcByte (acc : Word) (b : Byte) : Word :=
  crcRounds 8 (acc ^^^ (b.setWidth 32 <<< 24))

/-- `FOLD(acc, C)` (R73): CRCBYTE over the bytes in order. -/
def crcFold : Word → List Byte → Word
  | acc, [] => acc
  | acc, b :: bs => crcFold (crcByte acc b) bs

/-- `CRC32(B)` (R72). -/
def crc32 (bs : List Byte) : Word :=
  crcFold Config.crcInit bs

end Sys2Proof.Machine
end

