-- ==== Sys2Proof/Machine/CrcPort.lean ====
section
/-! DEFINITION. The transactions of the stand-alone CRC port (spec/40_crc_engine.md R76, R77). -/

namespace Sys2Proof.Machine

/-- `WR CRC_DATA, v` (R76): fold one byte into the port's accumulator. -/
def execWrCrcData (v : Word) (s : State) : Host.Outcome State Fault Refusal :=
  writeAnswer { s with crcAcc := crcByte s.crcAcc (byteOperand v) }

/-- `RD CRC_VALUE` (R77). -/
def execRdCrcValue (s : State) : Host.Outcome State Fault Refusal :=
  readAnswer s.crcAcc s

end Sys2Proof.Machine
end

