-- ==== Sys2Proof/Machine/Diagnostic.lean ====
section
/-! DEFINITION. The diagnostic window of the last decode attempt (spec/44_pipeline_and_output.md R133 to R145). -/

namespace Sys2Proof.Machine

/-- `RD DIAG_W0` (R133). -/
def execRdDiagW0 (s : State) : Host.Outcome State Fault Refusal :=
  readAnswer s.diag.record.w0 s

/-- `RD DIAG_W1` (R134). -/
def execRdDiagW1 (s : State) : Host.Outcome State Fault Refusal :=
  readAnswer s.diag.record.w1 s

/-- `RD DIAG_W2` (R135). -/
def execRdDiagW2 (s : State) : Host.Outcome State Fault Refusal :=
  readAnswer s.diag.record.w2 s

/-- `RD DIAG_W3` (R136). -/
def execRdDiagW3 (s : State) : Host.Outcome State Fault Refusal :=
  readAnswer s.diag.record.w3 s

/-- `RD DIAG_W4` (R137). -/
def execRdDiagW4 (s : State) : Host.Outcome State Fault Refusal :=
  readAnswer s.diag.record.w4 s

/-- `RD DIAG_W5` (R138). -/
def execRdDiagW5 (s : State) : Host.Outcome State Fault Refusal :=
  readAnswer s.diag.record.w5 s

/-- `RD DIAG_W6` (R139). -/
def execRdDiagW6 (s : State) : Host.Outcome State Fault Refusal :=
  readAnswer s.diag.record.w6 s

/-- `RD DIAG_W7` (R140). -/
def execRdDiagW7 (s : State) : Host.Outcome State Fault Refusal :=
  readAnswer s.diag.record.w7 s

/-- `RD DIAG_W8` (R141). -/
def execRdDiagW8 (s : State) : Host.Outcome State Fault Refusal :=
  readAnswer s.diag.record.w8 s

/-- `RD DIAG_W9` (R142). -/
def execRdDiagW9 (s : State) : Host.Outcome State Fault Refusal :=
  readAnswer s.diag.record.w9 s

/-- `RD DIAG_W10` (R143). -/
def execRdDiagW10 (s : State) : Host.Outcome State Fault Refusal :=
  readAnswer s.diag.record.w10 s

/-- `RD DIAG_CODE` (R144). -/
def execRdDiagCode (s : State) : Host.Outcome State Fault Refusal :=
  readAnswer s.diag.code s

/-- `RD DIAG_CRC_CALC` (R145). -/
def execRdDiagCrcCalc (s : State) : Host.Outcome State Fault Refusal :=
  readAnswer s.diag.crcCalc s

end Sys2Proof.Machine
end

