-- ==== Sys2Proof/Machine/Output.lean ====
section
/-! DEFINITION. The output queue and its head record window (spec/44_pipeline_and_output.md R120 to R132). -/

namespace Sys2Proof.Machine

/-- `RD OUT_COUNT` (R120). -/
def execRdOutCount (s : State) : Host.Outcome State Fault Refusal :=
  readAnswer (outCountWord s) s

/-- `WR OUT_POP, v` (R121): the head record is removed; a pop of an empty queue has no effect. All of `v` is ignored (R65). -/
def execWrOutPop (_v : Word) (s : State) : Host.Outcome State Fault Refusal :=
  writeAnswer { s with outq := s.outq.tail }

/-- `RD OUT_W0` (R122). -/
def execRdOutW0 (s : State) : Host.Outcome State Fault Refusal :=
  readAnswer (outWord Record.w0 s) s

/-- `RD OUT_W1` (R123). -/
def execRdOutW1 (s : State) : Host.Outcome State Fault Refusal :=
  readAnswer (outWord Record.w1 s) s

/-- `RD OUT_W2` (R124). -/
def execRdOutW2 (s : State) : Host.Outcome State Fault Refusal :=
  readAnswer (outWord Record.w2 s) s

/-- `RD OUT_W3` (R125). -/
def execRdOutW3 (s : State) : Host.Outcome State Fault Refusal :=
  readAnswer (outWord Record.w3 s) s

/-- `RD OUT_W4` (R126). -/
def execRdOutW4 (s : State) : Host.Outcome State Fault Refusal :=
  readAnswer (outWord Record.w4 s) s

/-- `RD OUT_W5` (R127). -/
def execRdOutW5 (s : State) : Host.Outcome State Fault Refusal :=
  readAnswer (outWord Record.w5 s) s

/-- `RD OUT_W6` (R128). -/
def execRdOutW6 (s : State) : Host.Outcome State Fault Refusal :=
  readAnswer (outWord Record.w6 s) s

/-- `RD OUT_W7` (R129). -/
def execRdOutW7 (s : State) : Host.Outcome State Fault Refusal :=
  readAnswer (outWord Record.w7 s) s

/-- `RD OUT_W8` (R130). -/
def execRdOutW8 (s : State) : Host.Outcome State Fault Refusal :=
  readAnswer (outWord Record.w8 s) s

/-- `RD OUT_W9` (R131). -/
def execRdOutW9 (s : State) : Host.Outcome State Fault Refusal :=
  readAnswer (outWord Record.w9 s) s

/-- `RD OUT_W10` (R132). -/
def execRdOutW10 (s : State) : Host.Outcome State Fault Refusal :=
  readAnswer (outWord Record.w10 s) s

end Sys2Proof.Machine
end

