-- ==== Sys2Proof/Machine/Float.lean ====
section
/-! DEFINITION. The IEEE-754 primitives of spec/00_scope.md R16: `f64`, `f32to64`, `i16to64`, `sub64`, `abs64`, `gt64`.

Every finite binary64 value is a whole multiple of 2^-1074, and so is every finite binary32 value and every integer. A finite
value is held as its sign and that multiple, so that a difference is computed exactly on integers and rounded once at the end.
A NaN is held without its payload: no rule reads the payload of a NaN that these primitives see or produce (U13 of spec
/93_implementation_defined.md; DESIGN CHOICE, assumption 6). What R16 takes from IEEE-754 without spelling it out is taken from
the standard (PRESUMED, assumption 7). The bit patterns themselves stay in the state, untouched (R16, R92). -/

namespace Sys2Proof.Machine

/-- A binary64 value. -/
inductive F64 where
  /-- A NaN, its payload left out (U13). -/
  | nan
  /-- An infinity, `neg` its sign bit. -/
  | inf (neg : Bool)
  /-- The finite value of magnitude `units * 2^-1074`, `neg` its sign bit (so both zeros are there). -/
  | fin (neg : Bool) (units : Nat)
deriving DecidableEq, Repr

/-- `f64(w)`: the binary64 value of a pattern: sign bit 63, exponent field 62:52, fraction 51:0 (R16). -/
def f64 (w : Dword) : F64 :=
  let neg := w.getLsbD 63
  let e := (w.extractLsb' 52 11).toNat
  let frac := (w.extractLsb' 0 52).toNat
  if e = 2047 then (if frac = 0 then .inf neg else .nan)
  else if e = 0 then .fin neg frac
  else .fin neg ((2 ^ 52 + frac) <<< (e - 1))

/-- `f32to64(w)`: the value of a binary32 pattern (sign bit 31, exponent field 30:23, fraction 22:0), exactly: a binary32 value
is a multiple of 2^-149, which is `2^925` units (R16). -/
def f32to64 (w : Word) : F64 :=
  let neg := w.getLsbD 31
  let e := (w.extractLsb' 23 8).toNat
  let frac := (w.extractLsb' 0 23).toNat
  if e = 255 then (if frac = 0 then .inf neg else .nan)
  else if e = 0 then .fin neg (frac <<< 925)
  else .fin neg ((2 ^ 23 + frac) <<< (e - 1 + 925))

/-- `i16to64(t)`: an integer, exactly; 1 is `2^1074` units, and zero is `+0` (R16). -/
def i16to64 (t : Int) : F64 :=
  .fin (decide (t < 0)) (t.natAbs <<< 1074)

/-- A finite value as an integer number of units. -/
def signedUnits (neg : Bool) (units : Nat) : Int :=
  if neg then -(units : Int) else units

/-- The bits of a magnitude beyond the 53 that a binary64 significand holds. -/
def excessBits (n : Nat) : Nat :=
  Nat.log2 n + 1 - 53

/-- A magnitude rounded to 53 significant bits, to nearest, ties to even (R16). A magnitude of 53 bits or fewer is exact, the
subnormal ones among them. -/
def roundUnits (n : Nat) : Nat :=
  let d := excessBits n
  let q := n >>> d
  let r := n % 2 ^ d
  let up := decide (2 ^ d < 2 * r) || (decide (2 ^ d = 2 * r) && decide (q % 2 = 1))
  (if up then q + 1 else q) <<< d

/-- The value of a sign and an exact magnitude, rounded; `2^1024` (which is `2^2098` units) and more become an infinity. -/
def roundToF64 (neg : Bool) (n : Nat) : F64 :=
  let m := roundUnits n
  if m < 2 ^ 2098 then .fin neg m else .inf neg

/-- `sub64(a, b)`: binary64 subtraction, rounded to nearest, ties to even (R16). An exact zero difference is `+0`, but for
`(-0) - (+0)`, which is `-0`. -/
def sub64 : F64 → F64 → F64
  | .nan, _ => .nan
  | _, .nan => .nan
  | .inf a, .inf b => if a = b then .nan else .inf a
  | .inf a, .fin _ _ => .inf a
  | .fin _ _, .inf b => .inf (!b)
  | .fin a m, .fin b n =>
    let diff := signedUnits a m - signedUnits b n
    if diff = 0 then .fin (a && !b) 0 else roundToF64 (decide (diff < 0)) diff.natAbs

/-- `abs64(a)`: the sign bit cleared (R16). -/
def abs64 : F64 → F64
  | .nan => .nan
  | .inf _ => .inf false
  | .fin _ n => .fin false n

/-- `gt64(a, b)`: the ordered "greater than", false when either is a NaN (R16). -/
def gt64 : F64 → F64 → Bool
  | .nan, _ => false
  | _, .nan => false
  | .inf a, .inf b => !a && b
  | .inf a, .fin _ _ => !a
  | .fin _ _, .inf b => b
  | .fin a m, .fin b n => decide (signedUnits b n < signedUnits a m)

end Sys2Proof.Machine
end

