-- ==== Sys2Proof/Machine/Filter.lean ====
section
/-! DEFINITION. The change-detection filter (spec/43_filter.md). -/

namespace Sys2Proof.Machine

/-- `SNAP(W)` (R98). -/
def snap (w : Record) : Snapshot where
  gx := w.w1
  gy := w.w2
  gz := w.w3
  ax := w.w4
  ay := w.w5
  az := w.w6
  temp := w.w8.extractLsb' 0 16

/-- `D(w, q)`: the absolute difference of two binary32 patterns, computed in binary64 (R99). -/
def absDiff32 (w q : Word) : F64 :=
  abs64 (sub64 (f32to64 w) (f32to64 q))

/-- The absolute difference of two s16 temperature patterns, computed in binary64 (R99). -/
def absDiffTemp (t u : Half) : F64 :=
  abs64 (sub64 (i16to64 (s16 t)) (i16to64 (s16 u)))

/-- The gyro test of R99: one of the three axis differences exceeds `thr_gyro`. -/
def gyroChanged (c : Settings) (w : Record) (p : Snapshot) : Bool :=
  gt64 (absDiff32 w.w1 p.gx) (f64 c.thrGyro) || gt64 (absDiff32 w.w2 p.gy) (f64 c.thrGyro) ||
    gt64 (absDiff32 w.w3 p.gz) (f64 c.thrGyro)

/-- The accel test of R99. -/
def accelChanged (c : Settings) (w : Record) (p : Snapshot) : Bool :=
  gt64 (absDiff32 w.w4 p.ax) (f64 c.thrAccel) || gt64 (absDiff32 w.w5 p.ay) (f64 c.thrAccel) ||
    gt64 (absDiff32 w.w6 p.az) (f64 c.thrAccel)

/-- The temperature test of R99. -/
def tempChanged (c : Settings) (w : Record) (p : Snapshot) : Bool :=
  gt64 (absDiffTemp (w.w8.extractLsb' 0 16) p.temp) (f64 c.thrTemp)

/-- `CHANGED(W, p)` (R99) under the thresholds of the moment (R108). -/
def changed (c : Settings) (w : Record) (p : Snapshot) : Bool :=
  gyroChanged c w p || accelChanged c w p || tempChanged c w p

/-- The result of FILTER (R103). -/
inductive FilterResult where
  | emitted
  | suppressed
deriving DecidableEq, Repr

/-- `FCODE` (R109). -/
def filterCode : FilterResult → Word
  | .emitted => 1#32
  | .suppressed => 2#32

/-- The decision of FILTER: emit when there is no snapshot, or when the record differs from it (R103). -/
def filterDecision (c : Settings) (filt : Option Snapshot) (w : Record) : FilterResult :=
  match filt with
  | none => .emitted
  | some p => if changed c w p then .emitted else .suppressed

/-- The state update of FILTER for each decision (R103): an emitted record is queued and becomes the snapshot, whole; a
suppressed one is only counted. -/
def filterUpdate (w : Record) (s : State) : FilterResult → State
  | .emitted =>
    { s with
      outq := s.outq ++ [w]
      filt := some (snap w)
      cnt := { s.cnt with emitted := s.cnt.emitted + 1#32 } }
  | .suppressed =>
    { s with cnt := { s.cnt with suppressed := s.cnt.suppressed + 1#32 } }

end Sys2Proof.Machine
end

