-- ==== Sys2Proof/Machine/FrameDecode.lean ====
section
/-! DEFINITION. The frame on the wire (spec/30_encoding.md R67) and the fixed-record decoder DECODE (spec/42_decoder.md R85). -/

namespace Sys2Proof.Machine

/-- The result of DECODE: a result code, with the record and the computed CRC where they exist (R85). -/
inductive DecodeResult where
  | incomplete
  | badHeader (w : Record) (crc : Word)
  | crcMismatch (w : Record) (crc : Word)
  | ok (w : Record) (crc : Word)
deriving DecidableEq, Repr

/-- The record of a frame: its ten big-endian words and the FLAGS word (R69, R85 steps 2 and 5). -/
def recordOf (f : List Byte) (checked isMatch hdrOk : Bool) : Record where
  w0 := be32 f 0
  w1 := be32 f 4
  w2 := be32 f 8
  w3 := be32 f 12
  w4 := be32 f 16
  w5 := be32 f 20
  w6 := be32 f 24
  w7 := be32 f 28
  w8 := be32 f 32
  w9 := be32 f 36
  w10 := flagsWord (byteAt f 32) checked isMatch hdrOk

/-- `DECODE(S, vc)` (R85): length, then header, then CRC (R95). It reads no state and writes none. -/
def decodeFrame (span : List Byte) (vc : Bool) : DecodeResult :=
  if span.length < Config.frameLen then .incomplete
  else
    let f := span.take Config.frameLen
    let hdrOk := be32 f 0 == Config.magic
    let checked := vc && hdrOk
    let crc := if checked then crc32 (f.take Config.crcSpan) else 0#32
    let isMatch := checked && crc == be32 f 36
    let w := recordOf f checked isMatch hdrOk
    if !hdrOk then .badHeader w crc
    else if checked && !isMatch then .crcMismatch w crc
    else .ok w crc

/-- The fields a frame carries beside its header and its CRC (R67). -/
structure FrameFields where
  gyroX : Word
  gyroY : Word
  gyroZ : Word
  accelX : Word
  accelY : Word
  accelZ : Word
  timestamp : Word
  status : Byte
  sequence : Byte
  temperature : Half
deriving DecidableEq, Repr

/-- Bytes 0 to 35 of the frame of given fields: the header and the fields in order, big-endian, no padding (R67). -/
def frameBody (x : FrameFields) : List Byte :=
  wireBytes Config.magic ++ wireBytes x.gyroX ++ wireBytes x.gyroY ++ wireBytes x.gyroZ ++
    wireBytes x.accelX ++ wireBytes x.accelY ++ wireBytes x.accelZ ++ wireBytes x.timestamp ++
    [x.status, x.sequence, x.temperature.extractLsb' 8 8, x.temperature.extractLsb' 0 8]

/-- The 40 bytes of the frame of given fields, its CRC correct (R67, R94). -/
def encodeFrame (x : FrameFields) : List Byte :=
  frameBody x ++ wireBytes (crc32 (frameBody x))

end Sys2Proof.Machine
end

