-- ==== Sys2Proof/Machine/Sync.lean ====
section
/-! DEFINITION. The frame synchronizer (spec/41_synchronizer.md): the search for the magic, the two discards, the overflow rule. -/

namespace Sys2Proof.Machine

/-- The magic starts at index 0 of the sequence (R79, the test of the loop body). -/
def startsMagic : List Byte → Bool
  | b0 :: b1 :: b2 :: b3 :: _ => b0 == 0xFE#8 && b1 == 0x81#8 && b2 == 0xFF#8 && b3 == 0x56#8
  | _ => false

/-- `FINDMAGIC(B)`: the lowest index at which the magic starts (R79). -/
def findMagic : List Byte → Option Nat
  | [] => none
  | b :: bs => if startsMagic (b :: bs) then some 0 else (findMagic bs).map (· + 1)

/-- The first `k` bytes of `buf` leave it and are counted as discarded, modulo 2^32 (R80, R81, R111). -/
def discardBytes (k : Nat) (s : State) : State :=
  { s with
    buf := s.buf.drop k
    cnt := { s.cnt with discarded := s.cnt.discarded + BitVec.ofNat 32 k } }

/-- R81: with no magic in `buf`, exactly its last `min(len(buf), 3)` bytes are kept. -/
def keepTail (s : State) : State :=
  discardBytes (s.buf.length - min s.buf.length Config.tailKeep) s

/-- R83: before a PUSH appends, the oldest byte of a full buffer is dropped, and the overflow is counted and recorded. -/
def dropOldestIfFull (s : State) : State :=
  if s.buf.length = s.params.bufCap then
    let t := discardBytes 1 s
    { t with
      cnt := { t.cnt with overflow := t.cnt.overflow + 1#32 }
      seen := { t.seen with overflow := true } }
  else s

/-- `buf <- buf ++ [b]` (R119). -/
def appendByte (b : Byte) (s : State) : State :=
  { s with buf := s.buf ++ [b] }

end Sys2Proof.Machine
end

