-- ==== Sys2Proof/Machine/Pipeline.lean ====
section
/-! DEFINITION. PROCESS: the synchronizer, the decoder and the filter run on `buf` until no further progress is possible
(spec/44_pipeline_and_output.md R109). -/

namespace Sys2Proof.Machine

/-- `diag_rec <- W; diag_crc_calc <- calc` (R109); `diag_code` is written when the result is known. -/
def recordAttempt (w : Record) (crc : Word) (s : State) : State :=
  { s with diag := { s.diag with record := w, crcCalc := crc } }

/-- `diag_code <- v` (R109). -/
def setDiagCode (v : Word) (s : State) : State :=
  { s with diag := { s.diag with code := v } }

/-- `buf <- buf[40..]`: the frame is consumed, and its bytes are not counted as discarded (R110). -/
def consumeFrame (s : State) : State :=
  { s with buf := s.buf.drop Config.frameLen }

/-- The frame is consumed and its record filtered; `diag_code` is the result code with the filter's in bits 9:8 (R109, R112). -/
def passToFilter (resultCode : Word) (w : Record) (s : State) : State :=
  let f := filterDecision s.cfg s.filt w
  setDiagCode (resultCode ||| (filterCode f <<< 8)) (filterUpdate w (consumeFrame s) f)

/-- The OK arm of R109. -/
def onOk (w : Record) (s : State) : State :=
  passToFilter 1#32 w { s with cnt := { s.cnt with framesOk := s.cnt.framesOk + 1#32 } }

/-- The CRC_MISMATCH arm of R109 (R111, R112, R179). -/
def onCrcMismatch (w : Record) (s : State) : State :=
  let t := { s with
    cnt := { s.cnt with crcMismatch := s.cnt.crcMismatch + 1#32 }
    seen := { s.seen with crcMismatch := true } }
  if t.cfg.acceptBadCrc then passToFilter 4#32 w t else setDiagCode 3#32 (discardBytes 1 t)

/-- The BAD_HEADER arm of R109 (R111, R178). -/
def onBadHeader (s : State) : State :=
  setDiagCode 2#32 (discardBytes 1
    { s with
      cnt := { s.cnt with badHeader := s.cnt.badHeader + 1#32 }
      seen := { s.seen with badHeader := true } })

/-- One decode attempt: DECODE on the first 40 bytes of `buf`, and the arm of its result (R109). The pipeline calls it with at
least 40 bytes present, so INCOMPLETE, which changes nothing (R113), does not occur (R96). -/
def decodeAttempt (s : State) : State :=
  match decodeFrame (s.buf.take Config.frameLen) s.cfg.validateCrc with
  | .incomplete => s
  | .ok w crc => onOk w (recordAttempt w crc s)
  | .crcMismatch w crc => onCrcMismatch w (recordAttempt w crc s)
  | .badHeader w crc => onBadHeader (recordAttempt w crc s)

/-- What one pass through the loop of R109 comes to. -/
inductive Pass where
  /-- The loop exits. -/
  | stop (s : State)
  /-- The loop goes on. -/
  | again (s : State)
deriving DecidableEq, Repr

/-- One pass through the loop of R109. -/
def onePass (s : State) : Pass :=
  match findMagic s.buf with
  | none => .stop (keepTail s)
  | some k =>
    let t := discardBytes k s
    if t.buf.length < Config.frameLen then .stop t else .again (decodeAttempt t)

/-- The loop of R109, at most `n` passes. -/
def passes : Nat → State → State
  | 0, s => s
  | n + 1, s =>
    match onePass s with
    | .stop t => t
    | .again t => passes n t

/-- `PROCESS()` (R109). Each pass that does not exit removes at least one byte from `buf`, so `len(buf)` passes and the exiting
one are enough, and the bound is never met (Laws/Pipeline.lean). -/
def runPipeline (s : State) : State :=
  passes (s.buf.length + 1) s

end Sys2Proof.Machine
end

