-- ==== Sys2Proof/Machine/Push.lean ====
section
/-! DEFINITION. Byte input: WR PUSH (spec/44_pipeline_and_output.md R119). -/

namespace Sys2Proof.Machine

/-- The effect of an accepted PUSH: the overflow rule, the append, PROCESS (R119, in the order of R182). -/
def pushByte (b : Byte) (s : State) : State :=
  runPipeline (appendByte b (dropOldestIfFull s))

/-- `WR PUSH, v` (R119): refused with `BusError(OUT_FULL)` while the output queue is full, else one byte goes in and the
pipeline runs. The bus error carries this transaction's W = 1 and ADDR = 0x10 (R174). -/
def execWrPush (v : Word) (s : State) : Host.Outcome State Fault Refusal :=
  if s.outq.length = s.params.outDepth then .next (raiseBusError .outFull true 0x10#8 s)
  else writeAnswer (pushByte (byteOperand v) s)

end Sys2Proof.Machine
end

