-- ==== Sys2Proof/Machine/Threshold.lean ====
section
/-! DEFINITION. The six threshold halves (spec/45_control_registers.md R153 to R164). Every 64-bit pattern is accepted and kept
exactly (spec/10_state.md R24), and each half takes effect at once (spec/70_reset_and_hazards.md R199). -/

namespace Sys2Proof.Machine

/-- `RD THR_GYRO_LO` (R153). -/
def execRdThrGyroLo (s : State) : Host.Outcome State Fault Refusal :=
  readAnswer (lowHalf s.cfg.thrGyro) s

/-- `WR THR_GYRO_LO, v` (R155). -/
def execWrThrGyroLo (v : Word) (s : State) : Host.Outcome State Fault Refusal :=
  writeAnswer { s with cfg := { s.cfg with thrGyro := withLowHalf s.cfg.thrGyro v } }

/-- `RD THR_GYRO_HI` (R154). -/
def execRdThrGyroHi (s : State) : Host.Outcome State Fault Refusal :=
  readAnswer (highHalf s.cfg.thrGyro) s

/-- `WR THR_GYRO_HI, v` (R156). -/
def execWrThrGyroHi (v : Word) (s : State) : Host.Outcome State Fault Refusal :=
  writeAnswer { s with cfg := { s.cfg with thrGyro := withHighHalf s.cfg.thrGyro v } }

/-- `RD THR_ACCEL_LO` (R157). -/
def execRdThrAccelLo (s : State) : Host.Outcome State Fault Refusal :=
  readAnswer (lowHalf s.cfg.thrAccel) s

/-- `WR THR_ACCEL_LO, v` (R159). -/
def execWrThrAccelLo (v : Word) (s : State) : Host.Outcome State Fault Refusal :=
  writeAnswer { s with cfg := { s.cfg with thrAccel := withLowHalf s.cfg.thrAccel v } }

/-- `RD THR_ACCEL_HI` (R158). -/
def execRdThrAccelHi (s : State) : Host.Outcome State Fault Refusal :=
  readAnswer (highHalf s.cfg.thrAccel) s

/-- `WR THR_ACCEL_HI, v` (R160). -/
def execWrThrAccelHi (v : Word) (s : State) : Host.Outcome State Fault Refusal :=
  writeAnswer { s with cfg := { s.cfg with thrAccel := withHighHalf s.cfg.thrAccel v } }

/-- `RD THR_TEMP_LO` (R161). -/
def execRdThrTempLo (s : State) : Host.Outcome State Fault Refusal :=
  readAnswer (lowHalf s.cfg.thrTemp) s

/-- `WR THR_TEMP_LO, v` (R163). -/
def execWrThrTempLo (v : Word) (s : State) : Host.Outcome State Fault Refusal :=
  writeAnswer { s with cfg := { s.cfg with thrTemp := withLowHalf s.cfg.thrTemp v } }

/-- `RD THR_TEMP_HI` (R162). -/
def execRdThrTempHi (s : State) : Host.Outcome State Fault Refusal :=
  readAnswer (highHalf s.cfg.thrTemp) s

/-- `WR THR_TEMP_HI, v` (R164). -/
def execWrThrTempHi (v : Word) (s : State) : Host.Outcome State Fault Refusal :=
  writeAnswer { s with cfg := { s.cfg with thrTemp := withHighHalf s.cfg.thrTemp v } }

end Sys2Proof.Machine
end

