-- ==== Sys2Proof/Machine/Dispatch.lean ====
section
/-! DEFINITION. One arm for each row of spec/opcode_table.json, in the table's order. -/

namespace Sys2Proof.Machine

def exec (i : Instr) (s : State) : Host.Outcome State Fault Refusal :=
  match i with
  | .rdId => Sys2Proof.Machine.execRdId s
  | .rdCtrl => Sys2Proof.Machine.execRdCtrl s
  | .wrCtrl v => Sys2Proof.Machine.execWrCtrl v s
  | .wrCmd v => Sys2Proof.Machine.execWrCmd v s
  | .rdStatus => Sys2Proof.Machine.execRdStatus s
  | .wrStatus v => Sys2Proof.Machine.execWrStatus v s
  | .wrPush v => Sys2Proof.Machine.execWrPush v s
  | .rdBufLen => Sys2Proof.Machine.execRdBufLen s
  | .rdThrGyroLo => Sys2Proof.Machine.execRdThrGyroLo s
  | .wrThrGyroLo v => Sys2Proof.Machine.execWrThrGyroLo v s
  | .rdThrGyroHi => Sys2Proof.Machine.execRdThrGyroHi s
  | .wrThrGyroHi v => Sys2Proof.Machine.execWrThrGyroHi v s
  | .rdThrAccelLo => Sys2Proof.Machine.execRdThrAccelLo s
  | .wrThrAccelLo v => Sys2Proof.Machine.execWrThrAccelLo v s
  | .rdThrAccelHi => Sys2Proof.Machine.execRdThrAccelHi s
  | .wrThrAccelHi v => Sys2Proof.Machine.execWrThrAccelHi v s
  | .rdThrTempLo => Sys2Proof.Machine.execRdThrTempLo s
  | .wrThrTempLo v => Sys2Proof.Machine.execWrThrTempLo v s
  | .rdThrTempHi => Sys2Proof.Machine.execRdThrTempHi s
  | .wrThrTempHi v => Sys2Proof.Machine.execWrThrTempHi v s
  | .wrCrcData v => Sys2Proof.Machine.execWrCrcData v s
  | .rdCrcValue => Sys2Proof.Machine.execRdCrcValue s
  | .rdErrInfo => Sys2Proof.Machine.execRdErrInfo s
  | .rdCntFramesOk => Sys2Proof.Machine.execRdCntFramesOk s
  | .rdCntBadHeader => Sys2Proof.Machine.execRdCntBadHeader s
  | .rdCntCrcMismatch => Sys2Proof.Machine.execRdCntCrcMismatch s
  | .rdCntEmitted => Sys2Proof.Machine.execRdCntEmitted s
  | .rdCntSuppressed => Sys2Proof.Machine.execRdCntSuppressed s
  | .rdCntDiscarded => Sys2Proof.Machine.execRdCntDiscarded s
  | .rdCntOverflow => Sys2Proof.Machine.execRdCntOverflow s
  | .rdOutCount => Sys2Proof.Machine.execRdOutCount s
  | .wrOutPop v => Sys2Proof.Machine.execWrOutPop v s
  | .rdOutW0 => Sys2Proof.Machine.execRdOutW0 s
  | .rdOutW1 => Sys2Proof.Machine.execRdOutW1 s
  | .rdOutW2 => Sys2Proof.Machine.execRdOutW2 s
  | .rdOutW3 => Sys2Proof.Machine.execRdOutW3 s
  | .rdOutW4 => Sys2Proof.Machine.execRdOutW4 s
  | .rdOutW5 => Sys2Proof.Machine.execRdOutW5 s
  | .rdOutW6 => Sys2Proof.Machine.execRdOutW6 s
  | .rdOutW7 => Sys2Proof.Machine.execRdOutW7 s
  | .rdOutW8 => Sys2Proof.Machine.execRdOutW8 s
  | .rdOutW9 => Sys2Proof.Machine.execRdOutW9 s
  | .rdOutW10 => Sys2Proof.Machine.execRdOutW10 s
  | .rdDiagW0 => Sys2Proof.Machine.execRdDiagW0 s
  | .rdDiagW1 => Sys2Proof.Machine.execRdDiagW1 s
  | .rdDiagW2 => Sys2Proof.Machine.execRdDiagW2 s
  | .rdDiagW3 => Sys2Proof.Machine.execRdDiagW3 s
  | .rdDiagW4 => Sys2Proof.Machine.execRdDiagW4 s
  | .rdDiagW5 => Sys2Proof.Machine.execRdDiagW5 s
  | .rdDiagW6 => Sys2Proof.Machine.execRdDiagW6 s
  | .rdDiagW7 => Sys2Proof.Machine.execRdDiagW7 s
  | .rdDiagW8 => Sys2Proof.Machine.execRdDiagW8 s
  | .rdDiagW9 => Sys2Proof.Machine.execRdDiagW9 s
  | .rdDiagW10 => Sys2Proof.Machine.execRdDiagW10 s
  | .rdDiagCode => Sys2Proof.Machine.execRdDiagCode s
  | .rdDiagCrcCalc => Sys2Proof.Machine.execRdDiagCrcCalc s

end Sys2Proof.Machine
end

