-- ==== Sys2Proof/Machine/Bus.lean ====
section
/-! DEFINITION. What the block does with the host's next event (spec/60_exceptions.md R182, R193). -/

namespace Sys2Proof.Machine

/-- One transaction: the instruction it names is performed; a word that names none is answered with the bus error of the first
check that fails (R55, R174), W and ADDR taken from the word. -/
def runTransaction (x : BusWord) (s : State) : Host.Outcome State Fault Refusal :=
  match decode x with
  | .ok i => exec i s
  | .error c => .next (raiseBusError c (Transaction.ofWord x).write (Transaction.ofWord x).addr s)

/-- One event: a transaction, or the hardware reset input (R194). -/
def runEvent (e : HostEvent) (s : State) : Host.Outcome State Fault Refusal :=
  match e with
  | .transaction x => runTransaction x s
  | .hardwareReset => .next (hardReset s)

/-- The next event the host has issued, performed whole; with none issued the block idles and keeps all state (R8, R192). -/
def runNext (s : State) : Host.Outcome State Fault Refusal :=
  match nextEvent s with
  | none => .next s
  | some (e, t) => runEvent e t

end Sys2Proof.Machine
end

