-- ==== Sys2Proof/Machine/Step.lean ====
section
/-! DEFINITION. One step of the machine: the host's next event, for a block whose parameters R11 admits. -/

namespace Sys2Proof.Machine

/-- One step (spec/00_scope.md R8, R11). -/
def step (s : State) : Host.Outcome State Fault Refusal :=
  if s.params.wf then runNext s else .refused .unsupportedParameters

/-- The state in which the transaction whose bits are `w`, numbered as spec/opcode_table.json numbers them and zero above
`nbits`, is the host's next one (assumption 1). -/
def State.withFetchWord (s : State) (nbits w : Nat) : State :=
  issueNext (BitVec.ofNat 41 (w % 2 ^ nbits)) s

end Sys2Proof.Machine
end

