-- ==== Sys2Proof/Machine/Pseudo.lean ====
section
/-! DEFINITION. The pseudo-instructions of spec/30_encoding.md R57, each an exact expansion into transactions, in issue order. -/

namespace Sys2Proof.Machine

/-- The three 64-bit thresholds (R42). -/
inductive Threshold where
  | gyro
  | accel
  | temp
deriving DecidableEq, Repr

/-- `PUSHB b0, b1, ..., bk`; `PUSHF` is the same with the 40 bytes of a frame (R57). -/
def pushBytes (bs : List Byte) : List Instr :=
  bs.map fun b => .wrPush (b.setWidth 32)

/-- `WR64 THR_<X>, v`: the LO half, then the HI half (R57). -/
def wr64 (t : Threshold) (v : Dword) : List Instr :=
  match t with
  | .gyro => [.wrThrGyroLo (lowHalf v), .wrThrGyroHi (highHalf v)]
  | .accel => [.wrThrAccelLo (lowHalf v), .wrThrAccelHi (highHalf v)]
  | .temp => [.wrThrTempLo (lowHalf v), .wrThrTempHi (highHalf v)]

/-- `CRC b0, ..., bk`: CRC_INIT, one CRC_DATA a byte, CRC_VALUE (R57). -/
def crcOfBytes (bs : List Byte) : List Instr :=
  .wrCmd 0x8#32 :: (bs.map fun b => .wrCrcData (b.setWidth 32)) ++ [.rdCrcValue]

/-- `POPREC`: the eleven words of the head record, then the pop (R57). -/
def popRec : List Instr :=
  [.rdOutW0, .rdOutW1, .rdOutW2, .rdOutW3, .rdOutW4, .rdOutW5, .rdOutW6, .rdOutW7, .rdOutW8, .rdOutW9, .rdOutW10,
    .wrOutPop 0#32]

/-- `SRESET` (R57). -/
def softResetCommand : List Instr := [.wrCmd 0x1#32]

/-- `FLUSH` (R57). -/
def flushCommand : List Instr := [.wrCmd 0x2#32]

/-- A list of instructions as the events the host issues for it (R54, R56). -/
def issueAll (is : List Instr) : List HostEvent :=
  is.map fun i => .transaction (encode i)

end Sys2Proof.Machine
end

