-- ==== Sys2Proof/Safety.lean ====
section
/-! DEFINITION. The terms in which statements speak of a good state and of a run: the quiescent condition (spec
/44_pipeline_and_output.md R114), the invariant of the reachable states, the two balances (spec/45_control_registers.md R173), the
values of finite patterns (spec/00_scope.md R16). -/

namespace Sys2Proof.Machine

/-- `Q(buf)`, the quiescent condition (R114). -/
abbrev Quiescent (b : List Byte) : Prop :=
  (findMagic b = none ∧ b.length ≤ 3) ∨ (findMagic b = some 0 ∧ 4 ≤ b.length ∧ b.length ≤ 39)

/-- The values DIAG_CODE can hold (R28, R144). -/
def diagCodes : List Word :=
  [0x000#32, 0x101#32, 0x201#32, 0x002#32, 0x003#32, 0x104#32, 0x204#32]

/-- err_info holds a zero above bit 12 and a cause code of R175 in bits 11:8 (R32, R63). -/
abbrev ErrInfoLegal (e : Word) : Prop :=
  e.toNat < 2 ^ 13 ∧ (e.extractLsb' 8 4).toNat ≤ 5

/-- The status byte of a record: W8 bits 31:24 (R43, R69). -/
def Record.status (r : Record) : Byte :=
  r.w8.extractLsb' 24 8

/-- FLAGS agrees with the words it is derived from, and its reserved bits are zero (R70, C10): the validity bits are those of
the status byte, HEADER_OK says whether W0 is the magic, CRC_MATCH is set only with CRC_CHECKED. -/
abbrev FlagsAgree (r : Record) : Prop :=
  r.w10 &&& 0xFF#32 = validFlags r.status ∧ r.w10.toNat < 2 ^ 11 ∧
    (r.w10.getLsbD 10 = true ↔ r.w0 = Config.magic) ∧ (r.w10.getLsbD 9 = true → r.w10.getLsbD 8 = true)

/-- A record of the queue carries the magic (R122) and its FLAGS agree (R70). -/
abbrev QueuedLegal (r : Record) : Prop :=
  r.w0 = Config.magic ∧ FlagsAgree r

/-- The invariant of the states that a run from reset reaches, under parameters that R11 admits: R114 for the buffer, R27 for
the queue, R122 and R70 for its records, R28 and R144 for the diagnostic state, R32 and R63 for err_info. -/
structure State.Inv (s : State) : Prop where
  params : s.params.wf = true
  quiescent : Quiescent s.buf
  queueBound : s.outq.length ≤ s.params.outDepth
  queued : ∀ r ∈ s.outq, QueuedLegal r
  diagCode : s.diag.code ∈ diagCodes
  diagRecord : s.diag.record = Record.zero ∨ FlagsAgree s.diag.record
  errInfo : ErrInfoLegal s.errInfo

/-- Nothing has recorded a BadHeader or a BufferOverflow (R84, R96). -/
abbrev State.NeverBad (s : State) : Prop :=
  s.cnt.badHeader = 0#32 ∧ s.seen.badHeader = false ∧ s.cnt.overflow = 0#32 ∧ s.seen.overflow = false

/-- The decode attempts that the counters have counted, modulo 2^32 (R28, R109). -/
def State.attempts (s : State) : Word :=
  s.cnt.framesOk + s.cnt.crcMismatch + s.cnt.badHeader

/-- The records that the filter has decided on, modulo 2^32 (R103). -/
def State.filtered (s : State) : Word :=
  s.cnt.emitted + s.cnt.suppressed

/-- The right side of the byte balance of R173, modulo 2^32. -/
def State.bytesAccounted (s : State) : Word :=
  s.cnt.discarded + 40#32 * s.filtered + BitVec.ofNat 32 s.buf.length

/-- A threshold that no zero difference exceeds: it is not negative, or it is a NaN (R102, R106). -/
abbrev NotNegative (d : Dword) : Prop :=
  gt64 (.fin false 0) (f64 d) = false

/-- The value of a finite binary32 pattern in units of `2^-1074`: sign bit 31, exponent field 30:23 with bias 127, fraction 22:0
with the hidden bit of a normal number (spec/00_scope.md R16; the layout is PRESUMED from IEEE-754, assumption 7). -/
def units32 (w : Word) : Int :=
  let e := (w.extractLsb' 23 8).toNat
  let frac := (w.extractLsb' 0 23).toNat
  (if w.getLsbD 31 then -1 else 1) * (((if e = 0 then frac else 2 ^ 23 + frac) * 2 ^ (max e 1 + 924) : Nat) : Int)

/-- The value of a finite binary64 pattern in units of `2^-1074`: sign bit 63, exponent field 62:52 with bias 1023, fraction 51:0
with the hidden bit of a normal number (R16; PRESUMED from IEEE-754, assumption 7). -/
def units64 (d : Dword) : Int :=
  let e := (d.extractLsb' 52 11).toNat
  let frac := (d.extractLsb' 0 52).toNat
  (if d.getLsbD 63 then -1 else 1) * (((if e = 0 then frac else 2 ^ 52 + frac) * 2 ^ (max e 1 - 1) : Nat) : Int)

/-- The stream `bs` pushed byte by byte, WR PUSH after WR PUSH, while the block answers with a next state (R57, R117). -/
def pushAll : List Byte → State → Host.Outcome State Fault Refusal
  | [], s => .next s
  | b :: bs, s =>
    match exec (.wrPush (b.setWidth 32)) s with
    | .next t => pushAll bs t
    | .fault f => .fault f
    | .refused r => .refused r

end Sys2Proof.Machine
end

