-- ==== Sys2Proof/Certificates/Slice0/Obligations.lean ====
section
/-! DEFINITION. The statements for the provers. Each docstring names the rule or the section of spec/ it rests on. A statement's
next state is written out as a record over the state before it, so that it says the result and the frame at once: a field that
is not written is unchanged. -/

open Sys2Proof Sys2Proof.Machine

/-! ### Encoding and decoding -/

/-- spec/30_encoding.md section 1: the word of an instruction decodes to it, with every operand at every value. -/
def Obligations.DecodeInvertsEncode : Prop :=
  ∀ i : Instr, i.wellFormed = true → decode (encode i) = .ok i

/-- spec/30_encoding.md section 1: a word that decodes is the word of its instruction, but for the WDATA that a read ignores. -/
def Obligations.DecodedWordIsItsInstructionsWord : Prop :=
  ∀ (x : BusWord) (i : Instr), decode x = .ok i →
    encode i = if x.getLsbD 40 = true then x else x &&& 0x1FF00000000#41

/-- spec/30_encoding.md section 1, the order of checks: misaligned, unmapped, write of RO, read of WO, else an instruction whose
word has the same W and ADDR. The offsets of the lists are those of the register map. -/
def Obligations.DecodeChecksInOrder : Prop :=
  ∀ t : Transaction,
    (t.addr.toNat % 4 ≠ 0 → decode t.toWord = .error .misaligned) ∧
    (t.addr.toNat % 4 = 0 → t.addr.mapped = false → decode t.toWord = .error .unmapped) ∧
    (t.write = true → t.addr.toNat ∈ readOnlyOffsets → decode t.toWord = .error .writeRo) ∧
    (t.write = false → t.addr.toNat ∈ writeOnlyOffsets → decode t.toWord = .error .readWo) ∧
    (t.wellFormed = true → ∃ i, decode t.toWord = .ok i ∧
      encodeTransaction i = ⟨t.write, t.addr, if t.write = true then t.wdata else 0#32⟩)

/-- Words written out from the patterns of spec/opcode_table.json, one or more a family, decode to their rows. -/
def Obligations.WordsOfTheTableDecode : Prop :=
  decode 0x0000000000#41 = .ok .rdId ∧
  decode 0x10400000003#41 = .ok (.wrCtrl 3#32) ∧
  decode 0x1080000003F#41 = .ok (.wrCmd 0x3F#32) ∧
  decode 0x00C00000000#41 = .ok .rdStatus ∧
  decode 0x110000000FE#41 = .ok (.wrPush 0xFE#32) ∧
  decode 0x12000000000#41 = .ok (.wrThrAccelLo 0#32) ∧
  decode 0x12C3FF00000#41 = .ok (.wrThrTempHi 0x3FF00000#32) ∧
  decode 0x13000000031#41 = .ok (.wrCrcData 0x31#32) ∧
  decode 0x05400000000#41 = .ok .rdCntDiscarded ∧
  decode 0x0A8DEADBEEF#41 = .ok .rdOutW10 ∧
  decode 0x0F000000000#41 = .ok .rdDiagCrcCalc ∧
  decode 0x03C00000000#41 = .error .unmapped

/-! ### Steps, events, resets -/

/-- spec/00_scope.md section 3: one transaction a step. Where the host's next event is a word that decodes to `i`, the step is
exec of `i` in the state in which that event is no longer pending; any other event is performed by `runEvent` in that state; with
no event pending the block idles (section 7 of spec/60_exceptions.md; DEDUCED, assumption 4). That events stand in a list is the
model's choice (DESIGN CHOICE, assumption 1). -/
def Obligations.StepRunsTheDecodedInstruction : Prop :=
  (∀ (s : State) (x : BusWord) (rest : List HostEvent) (i : Instr),
    s.params.wf = true → s.pending = .transaction x :: rest → decode x = .ok i → i.wellFormed = true →
    step s = exec i { s with pending := rest }) ∧
  (∀ (s : State) (e : HostEvent) (rest : List HostEvent), s.params.wf = true → s.pending = e :: rest →
    step s = runEvent e { s with pending := rest }) ∧
  (∀ s : State, s.params.wf = true → s.pending = [] → step s = .next s)

/-- spec/00_scope.md section 4: a configuration with `BUF_CAP` below 40 or `OUT_DEPTH` 0 is refused, and no other is. That the
parameters stand in State is the model's choice (assumption 3). -/
def Obligations.StepRefusesExactlyUnsupportedParameters : Prop :=
  ∀ s : State, step s = .refused .unsupportedParameters ↔ (s.params.bufCap < 40 ∨ s.params.outDepth = 0)

/-- spec/70_reset_and_hazards.md section 1: the hardware reset sets every element of the state tuple to its reset value, from any
state. The model's choices are the last two clauses: that the parameters are kept (DESIGN CHOICE, assumption 3) and that the
events still pending are kept (DESIGN CHOICE, assumption 5). Nothing is said of `resp`. -/
def Obligations.HardwareResetSetsEveryElement : Prop :=
  ∀ s : State, ∃ t, runEvent .hardwareReset s = .next t ∧
    t.cfg = ⟨true, false, 0x3F847AE147AE147B#64, 0x3FB999999999999A#64, 0x3FF0000000000000#64⟩ ∧
    t.buf = [] ∧ t.filt = none ∧ t.outq = [] ∧
    t.diag = ⟨⟨0#32, 0#32, 0#32, 0#32, 0#32, 0#32, 0#32, 0#32, 0#32, 0#32, 0#32⟩, 0#32, 0#32⟩ ∧
    t.crcAcc = 0xFFFFFFFF#32 ∧ t.seen = ⟨false, false, false, false⟩ ∧
    t.cnt = ⟨0#32, 0#32, 0#32, 0#32, 0#32, 0#32, 0#32⟩ ∧ t.errInfo = 0#32 ∧
    t.params = s.params ∧ t.pending = s.pending

/-- spec/30_encoding.md section 2, the reset column of the register map: what each of the 44 reads answers at reset. -/
def Obligations.EveryRegisterReadsItsResetValue : Prop :=
  ∀ p ∈ ([(.rdId, 0x4B564801#32), (.rdCtrl, 1#32), (.rdStatus, 0#32), (.rdBufLen, 0#32),
      (.rdThrGyroLo, 0x47AE147B#32), (.rdThrGyroHi, 0x3F847AE1#32), (.rdThrAccelLo, 0x9999999A#32),
      (.rdThrAccelHi, 0x3FB99999#32), (.rdThrTempLo, 0#32), (.rdThrTempHi, 0x3FF00000#32),
      (.rdCrcValue, 0xFFFFFFFF#32), (.rdErrInfo, 0#32), (.rdCntFramesOk, 0#32), (.rdCntBadHeader, 0#32),
      (.rdCntCrcMismatch, 0#32), (.rdCntEmitted, 0#32), (.rdCntSuppressed, 0#32), (.rdCntDiscarded, 0#32),
      (.rdCntOverflow, 0#32), (.rdOutCount, 0#32), (.rdOutW0, 0#32), (.rdOutW1, 0#32), (.rdOutW2, 0#32),
      (.rdOutW3, 0#32), (.rdOutW4, 0#32), (.rdOutW5, 0#32), (.rdOutW6, 0#32), (.rdOutW7, 0#32), (.rdOutW8, 0#32),
      (.rdOutW9, 0#32), (.rdOutW10, 0#32), (.rdDiagW0, 0#32), (.rdDiagW1, 0#32), (.rdDiagW2, 0#32),
      (.rdDiagW3, 0#32), (.rdDiagW4, 0#32), (.rdDiagW5, 0#32), (.rdDiagW6, 0#32), (.rdDiagW7, 0#32),
      (.rdDiagW8, 0#32), (.rdDiagW9, 0#32), (.rdDiagW10, 0#32), (.rdDiagCode, 0#32),
      (.rdDiagCrcCalc, 0#32)] : List (Instr × Word)),
    exec p.1 State.reset = .next { State.reset with resp := some ⟨p.2, false⟩ }

/-! ### Bus errors -/

/-- spec/60_exceptions.md R174, with the causes and their order of its section 1: for every 41-bit word and from every state, the
five causes in their order, the exact state that each bus error leaves, and no bus error otherwise. -/
def Obligations.OnlyTheFiveCausesRaiseABusError : Prop :=
  ∀ (s : State) (x : BusWord),
    let a : Addr := x.extractLsb' 32 8
    let w : Bool := x.getLsbD 40
    let failed (c : Word) : State :=
      { s with
        errInfo := a.setWidth 32 ||| (c <<< 8) ||| ((BitVec.ofBool w).setWidth 32 <<< 12)
        seen := { s.seen with busError := true }
        resp := some ⟨0#32, true⟩ }
    if a.toNat % 4 ≠ 0 then runEvent (.transaction x) s = .next (failed 1#32)
    else if a.mapped = false then runEvent (.transaction x) s = .next (failed 2#32)
    else if w = true ∧ a.toNat ∈ readOnlyOffsets then runEvent (.transaction x) s = .next (failed 3#32)
    else if w = false ∧ a.toNat ∈ writeOnlyOffsets then runEvent (.transaction x) s = .next (failed 4#32)
    else if w = true ∧ a = 0x10#8 ∧ s.outq.length = s.params.outDepth then
      runEvent (.transaction x) s = .next (failed 5#32)
    else ∃ t v, runEvent (.transaction x) s = .next t ∧ t.resp = some ⟨v, false⟩

/-- spec/10_state.md section 5: the fields of err_info after a bus error: ADDR in bits 7:0, CAUSE in bits 11:8, WRITE in bit 12,
zero above. -/
def Obligations.ErrInfoHoldsAddressCauseAndDirection : Prop :=
  ∀ (c : BusCause) (w : Bool) (a : Addr) (s : State),
    let e := (raiseBusError c w a s).errInfo
    e.extractLsb' 0 8 = a ∧
    (e.extractLsb' 8 4).toNat =
      (match c with | .misaligned => 1 | .unmapped => 2 | .writeRo => 3 | .readWo => 4 | .outFull => 5) ∧
    e.getLsbD 12 = w ∧ e.toNat < 2 ^ 13

/-- spec/60_exceptions.md section 8: no transaction stops the block, whatever the state; and no event does. The model's own
clauses: that the parameters stand in State and are kept (DESIGN CHOICE, assumption 3); that a step takes exactly one event of the
pending list (DESIGN CHOICE, assumption 1), idles with none pending (DEDUCED, assumption 4), and keeps the later events across a
hardware reset, on which the spec is silent (DESIGN CHOICE, assumption 5). -/
def Obligations.NothingStopsTheBlock : Prop :=
  (∀ (i : Instr) (s : State), ∃ t, exec i s = .next t ∧ t.params = s.params ∧ t.pending = s.pending) ∧
  (∀ s : State, s.params.wf = true → ∃ t, step s = .next t ∧ t.params = s.params ∧ t.pending = s.pending.tail)

/-! ### Reads -/

/-- spec/20_memory.md R47: a read leaves the state unchanged, so that it can be repeated with the same result; only the response
is new, and it is no error. A failing read sets err_info and seen_bus_error. -/
def Obligations.ReadsLeaveTheStateUnchanged : Prop :=
  (∀ (i : Instr) (s : State), (encodeTransaction i).write = false →
    ∃ v, exec i s = .next { s with resp := some ⟨v, false⟩ } ∧
      exec i { s with resp := some ⟨v, false⟩ } = .next { s with resp := some ⟨v, false⟩ }) ∧
  (∀ (x : BusWord) (s : State) (c : BusCause), x.getLsbD 40 = false → decode x = .error c →
    ∃ e : Word, e ≠ 0#32 ∧ runEvent (.transaction x) s = .next { s with
      errInfo := e, seen := { s.seen with busError := true }, resp := some ⟨0#32, true⟩ })

/-- spec/45_control_registers.md sections 1 and 4: the identifier, CTRL, and the six threshold halves. -/
def Obligations.IdentityAndConfigurationReads : Prop :=
  ∀ s : State,
    exec .rdId s = .next { s with resp := some ⟨0x4B564801#32, false⟩ } ∧
    exec .rdCtrl s = .next { s with
      resp := some ⟨(if s.cfg.acceptBadCrc then 2#32 else 0#32) + (if s.cfg.validateCrc then 1#32 else 0#32), false⟩ } ∧
    exec .rdThrGyroLo s = .next { s with resp := some ⟨s.cfg.thrGyro.extractLsb' 0 32, false⟩ } ∧
    exec .rdThrGyroHi s = .next { s with resp := some ⟨s.cfg.thrGyro.extractLsb' 32 32, false⟩ } ∧
    exec .rdThrAccelLo s = .next { s with resp := some ⟨s.cfg.thrAccel.extractLsb' 0 32, false⟩ } ∧
    exec .rdThrAccelHi s = .next { s with resp := some ⟨s.cfg.thrAccel.extractLsb' 32 32, false⟩ } ∧
    exec .rdThrTempLo s = .next { s with resp := some ⟨s.cfg.thrTemp.extractLsb' 0 32, false⟩ } ∧
    exec .rdThrTempHi s = .next { s with resp := some ⟨s.cfg.thrTemp.extractLsb' 32 32, false⟩ }

/-- spec/45_control_registers.md section 3, spec/30_encoding.md section 2: every bit of STATUS. -/
def Obligations.StatusReadsDerivedAndStickyBits : Prop :=
  ∀ s : State, ∃ v : Word, exec .rdStatus s = .next { s with resp := some ⟨v, false⟩ } ∧
    (v.getLsbD 0 = true ↔ ∃ r, s.buf = 0xFE#8 :: 0x81#8 :: 0xFF#8 :: 0x56#8 :: r) ∧
    (v.getLsbD 1 = true ↔ s.filt ≠ none) ∧
    (v.getLsbD 2 = true ↔ s.outq ≠ []) ∧
    (v.getLsbD 3 = true ↔ s.outq.length = s.params.outDepth) ∧
    v.getLsbD 8 = s.seen.badHeader ∧ v.getLsbD 9 = s.seen.crcMismatch ∧
    v.getLsbD 10 = s.seen.overflow ∧ v.getLsbD 11 = s.seen.busError ∧
    ∀ n, (4 ≤ n ∧ n < 8) ∨ 12 ≤ n → v.getLsbD n = false

/-- spec/45_control_registers.md section 3, spec/44_pipeline_and_output.md section 3: both reads answer from every state, and
BUF_LEN and OUT_COUNT are the lengths where they fit 32 bits (beyond that the spec is silent and the value is free: DESIGN CHOICE,
assumption 19); in every state of the invariant BUF_LEN is 0 to 3, or 4 to 39 with SYNCED, and never 40 or more. -/
def Obligations.LengthReads : Prop :=
  (∀ s : State, ∃ v : Word,
    exec .rdBufLen s = .next { s with resp := some ⟨v, false⟩ } ∧ (s.buf.length < 2 ^ 32 → v.toNat = s.buf.length)) ∧
  (∀ s : State, ∃ v : Word,
    exec .rdOutCount s = .next { s with resp := some ⟨v, false⟩ } ∧ (s.outq.length < 2 ^ 32 → v.toNat = s.outq.length)) ∧
  (∀ s : State, s.Inv → ∃ v : Word,
    exec .rdBufLen s = .next { s with resp := some ⟨v, false⟩ } ∧ v.toNat = s.buf.length ∧
      ((v.toNat ≤ 3 ∧ synced s = false) ∨ (4 ≤ v.toNat ∧ v.toNat ≤ 39 ∧ synced s = true)))

/-- spec/45_control_registers.md sections 5 and 6, spec/40_crc_engine.md section 2: err_info, the seven counters, crc_acc. -/
def Obligations.CounterErrorAndCrcReads : Prop :=
  ∀ s : State,
    exec .rdErrInfo s = .next { s with resp := some ⟨s.errInfo, false⟩ } ∧
    exec .rdCntFramesOk s = .next { s with resp := some ⟨s.cnt.framesOk, false⟩ } ∧
    exec .rdCntBadHeader s = .next { s with resp := some ⟨s.cnt.badHeader, false⟩ } ∧
    exec .rdCntCrcMismatch s = .next { s with resp := some ⟨s.cnt.crcMismatch, false⟩ } ∧
    exec .rdCntEmitted s = .next { s with resp := some ⟨s.cnt.emitted, false⟩ } ∧
    exec .rdCntSuppressed s = .next { s with resp := some ⟨s.cnt.suppressed, false⟩ } ∧
    exec .rdCntDiscarded s = .next { s with resp := some ⟨s.cnt.discarded, false⟩ } ∧
    exec .rdCntOverflow s = .next { s with resp := some ⟨s.cnt.overflow, false⟩ } ∧
    exec .rdCrcValue s = .next { s with resp := some ⟨s.crcAcc, false⟩ }

/-- spec/44_pipeline_and_output.md section 3, the head record window: the words of the head record, zeros when the queue is
empty. -/
def Obligations.OutWindowReadsTheHeadRecord : Prop :=
  ∀ p ∈ ([(.rdOutW0, Record.w0), (.rdOutW1, Record.w1), (.rdOutW2, Record.w2), (.rdOutW3, Record.w3),
      (.rdOutW4, Record.w4), (.rdOutW5, Record.w5), (.rdOutW6, Record.w6), (.rdOutW7, Record.w7),
      (.rdOutW8, Record.w8), (.rdOutW9, Record.w9), (.rdOutW10, Record.w10)] : List (Instr × (Record → Word))),
    ∀ s : State,
      (s.outq = [] → exec p.1 s = .next { s with resp := some ⟨0#32, false⟩ }) ∧
      (∀ r rs, s.outq = r :: rs → exec p.1 s = .next { s with resp := some ⟨p.2 r, false⟩ })

/-- spec/44_pipeline_and_output.md section 4, the diagnostic window. -/
def Obligations.DiagWindowReadsTheLastAttempt : Prop :=
  ∀ s : State,
    exec .rdDiagW0 s = .next { s with resp := some ⟨s.diag.record.w0, false⟩ } ∧
    exec .rdDiagW1 s = .next { s with resp := some ⟨s.diag.record.w1, false⟩ } ∧
    exec .rdDiagW2 s = .next { s with resp := some ⟨s.diag.record.w2, false⟩ } ∧
    exec .rdDiagW3 s = .next { s with resp := some ⟨s.diag.record.w3, false⟩ } ∧
    exec .rdDiagW4 s = .next { s with resp := some ⟨s.diag.record.w4, false⟩ } ∧
    exec .rdDiagW5 s = .next { s with resp := some ⟨s.diag.record.w5, false⟩ } ∧
    exec .rdDiagW6 s = .next { s with resp := some ⟨s.diag.record.w6, false⟩ } ∧
    exec .rdDiagW7 s = .next { s with resp := some ⟨s.diag.record.w7, false⟩ } ∧
    exec .rdDiagW8 s = .next { s with resp := some ⟨s.diag.record.w8, false⟩ } ∧
    exec .rdDiagW9 s = .next { s with resp := some ⟨s.diag.record.w9, false⟩ } ∧
    exec .rdDiagW10 s = .next { s with resp := some ⟨s.diag.record.w10, false⟩ } ∧
    exec .rdDiagCode s = .next { s with resp := some ⟨s.diag.code, false⟩ } ∧
    exec .rdDiagCrcCalc s = .next { s with resp := some ⟨s.diag.crcCalc, false⟩ }

/-! ### Writes of control, status, threshold and queue registers -/

/-- spec/45_control_registers.md section 1: WR CTRL stores two bits of its operand and nothing else. -/
def Obligations.WriteCtrlStoresTwoBits : Prop :=
  ∀ (v : Word) (s : State),
    exec (.wrCtrl v) s = .next { s with
      cfg := { s.cfg with validateCrc := v.getLsbD 0, acceptBadCrc := v.getLsbD 1 }
      resp := some ⟨0#32, false⟩ }

/-- spec/45_control_registers.md section 3: WR STATUS clears the sticky bits written with 1 and nothing else. -/
def Obligations.WriteStatusClearsTheBitsWrittenWithOne : Prop :=
  ∀ (v : Word) (s : State),
    exec (.wrStatus v) s = .next { s with
      seen := ⟨if v.getLsbD 8 then false else s.seen.badHeader, if v.getLsbD 9 then false else s.seen.crcMismatch,
        if v.getLsbD 10 then false else s.seen.overflow, if v.getLsbD 11 then false else s.seen.busError⟩
      resp := some ⟨0#32, false⟩ }

/-- spec/45_control_registers.md section 4: a write of a threshold half stores it bit for bit and leaves the other half and
everything else unchanged. -/
def Obligations.WriteThresholdHalfKeepsTheOther : Prop :=
  ∀ (v : Word) (s : State),
    (∃ d : Dword, exec (.wrThrGyroLo v) s = .next { s with
        cfg := { s.cfg with thrGyro := d }, resp := some ⟨0#32, false⟩ } ∧
      d.extractLsb' 0 32 = v ∧ d.extractLsb' 32 32 = s.cfg.thrGyro.extractLsb' 32 32) ∧
    (∃ d : Dword, exec (.wrThrGyroHi v) s = .next { s with
        cfg := { s.cfg with thrGyro := d }, resp := some ⟨0#32, false⟩ } ∧
      d.extractLsb' 32 32 = v ∧ d.extractLsb' 0 32 = s.cfg.thrGyro.extractLsb' 0 32) ∧
    (∃ d : Dword, exec (.wrThrAccelLo v) s = .next { s with
        cfg := { s.cfg with thrAccel := d }, resp := some ⟨0#32, false⟩ } ∧
      d.extractLsb' 0 32 = v ∧ d.extractLsb' 32 32 = s.cfg.thrAccel.extractLsb' 32 32) ∧
    (∃ d : Dword, exec (.wrThrAccelHi v) s = .next { s with
        cfg := { s.cfg with thrAccel := d }, resp := some ⟨0#32, false⟩ } ∧
      d.extractLsb' 32 32 = v ∧ d.extractLsb' 0 32 = s.cfg.thrAccel.extractLsb' 0 32) ∧
    (∃ d : Dword, exec (.wrThrTempLo v) s = .next { s with
        cfg := { s.cfg with thrTemp := d }, resp := some ⟨0#32, false⟩ } ∧
      d.extractLsb' 0 32 = v ∧ d.extractLsb' 32 32 = s.cfg.thrTemp.extractLsb' 32 32) ∧
    (∃ d : Dword, exec (.wrThrTempHi v) s = .next { s with
        cfg := { s.cfg with thrTemp := d }, resp := some ⟨0#32, false⟩ } ∧
      d.extractLsb' 32 32 = v ∧ d.extractLsb' 0 32 = s.cfg.thrTemp.extractLsb' 0 32)

/-- spec/10_state.md R24, through the pseudo-instruction WR64 of spec/30_encoding.md section 1: every 64-bit pattern is accepted
and kept exactly, for each threshold. That the transactions stand in `pending` is the model's choice (DESIGN CHOICE, assumption
1). -/
def Obligations.EveryThresholdPatternIsKeptExactly : Prop :=
  ∀ (d : Dword) (s : State) (rest : List HostEvent), s.params.wf = true →
    (s.pending = issueAll (wr64 .gyro d) ++ rest → core.run 2 s = .next { s with
      cfg := { s.cfg with thrGyro := d }, pending := rest, resp := some ⟨0#32, false⟩ }) ∧
    (s.pending = issueAll (wr64 .accel d) ++ rest → core.run 2 s = .next { s with
      cfg := { s.cfg with thrAccel := d }, pending := rest, resp := some ⟨0#32, false⟩ }) ∧
    (s.pending = issueAll (wr64 .temp d) ++ rest → core.run 2 s = .next { s with
      cfg := { s.cfg with thrTemp := d }, pending := rest, resp := some ⟨0#32, false⟩ })

/-- spec/30_encoding.md R60: what each bit of CMD does, and that a 0 does nothing. -/
def Obligations.CommandBitsPerformTheirActions : Prop :=
  ∀ (v : Word) (s : State),
    exec (.wrCmd v) s = .next { s with
      buf := if v.getLsbD 0 || v.getLsbD 1 then [] else s.buf
      filt := if v.getLsbD 0 || v.getLsbD 2 then none else s.filt
      crcAcc := if v.getLsbD 0 || v.getLsbD 3 then 0xFFFFFFFF#32 else s.crcAcc
      cnt := if v.getLsbD 0 || v.getLsbD 4 then ⟨0#32, 0#32, 0#32, 0#32, 0#32, 0#32, 0#32⟩ else s.cnt
      outq := if v.getLsbD 0 || v.getLsbD 5 then [] else s.outq
      diag := if v.getLsbD 0 then ⟨Record.zero, 0#32, 0#32⟩ else s.diag
      seen := if v.getLsbD 0 then ⟨false, false, false, false⟩ else s.seen
      errInfo := if v.getLsbD 0 then 0#32 else s.errInfo
      resp := some ⟨0#32, false⟩ }

/-- spec/70_reset_and_hazards.md R195: a soft reset, whatever the other bits of the command, sets every element but the
configuration to its reset value. -/
def Obligations.SoftResetKeepsOnlyTheConfiguration : Prop :=
  ∀ (v : Word) (s : State), v.getLsbD 0 = true →
    exec (.wrCmd v) s = .next { s with
      buf := []
      filt := none
      outq := []
      diag := ⟨⟨0#32, 0#32, 0#32, 0#32, 0#32, 0#32, 0#32, 0#32, 0#32, 0#32, 0#32⟩, 0#32, 0#32⟩
      crcAcc := 0xFFFFFFFF#32
      seen := ⟨false, false, false, false⟩
      cnt := ⟨0#32, 0#32, 0#32, 0#32, 0#32, 0#32, 0#32⟩
      errInfo := 0#32
      resp := some ⟨0#32, false⟩ }

/-- spec/20_memory.md section 3: repeating a write of CTRL, of a threshold half, of STATUS or of CMD has no further effect. -/
def Obligations.ConfigurationAndCommandWritesAreIdempotent : Prop :=
  ∀ (v : Word) (s t : State),
    ∀ i ∈ ([.wrCtrl v, .wrStatus v, .wrCmd v, .wrThrGyroLo v, .wrThrGyroHi v, .wrThrAccelLo v, .wrThrAccelHi v,
        .wrThrTempLo v, .wrThrTempHi v] : List Instr),
      exec i s = .next t → exec i t = .next t

/-- spec/44_pipeline_and_output.md R121: WR OUT_POP, at its address, removes the head record, whatever its operand; on an empty
queue it has no effect and is no error. -/
def Obligations.PopRemovesTheHeadRecord : Prop :=
  ∀ (v : Word) (s : State),
    encodeTransaction (.wrOutPop v) = ⟨true, 0x60#8, v⟩ ∧
    (s.outq = [] → exec (.wrOutPop v) s = .next { s with resp := some ⟨0#32, false⟩ }) ∧
    (∀ r rs, s.outq = r :: rs → exec (.wrOutPop v) s = .next { s with outq := rs, resp := some ⟨0#32, false⟩ })

/-! ### The CRC engine -/

/-- spec/40_crc_engine.md R76: WR CRC_DATA, at its address, folds the low byte of its operand into the accumulator and changes
nothing else; with the example of the rule. -/
def Obligations.CrcDataFoldsOneByte : Prop :=
  (∀ (v : Word) (s : State),
    encodeTransaction (.wrCrcData v) = ⟨true, 0x30#8, v⟩ ∧
    exec (.wrCrcData v) s = .next { s with
      crcAcc := crcByte s.crcAcc (v.extractLsb' 0 8), resp := some ⟨0#32, false⟩ }) ∧
  crcByte 0xFFFFFFFF#32 0x00#8 = 0x4E08BFB4#32

/-- spec/40_crc_engine.md R71: folding a byte is eight rounds of the serial division, bit 7 of the byte first: each round
compares the accumulator's top bit with the next bit of the byte, and shifts. -/
def Obligations.CrcByteIsSerialDivisionMsbFirst : Prop :=
  ∀ (acc : Word) (b : Byte),
    crcByte acc b =
      ([7, 6, 5, 4, 3, 2, 1, 0].foldl
        (fun (a : Word) (i : Nat) =>
          if (a.getLsbD 31 != b.getLsbD i) = true then (a <<< 1) ^^^ 0x04C11DB7#32 else a <<< 1) acc)

/-- spec/40_crc_engine.md R74: a frame that carries its own CRC big-endian in bytes 36 to 39 folds to zero. -/
def Obligations.FrameWithItsCrcFoldsToZero : Prop :=
  ∀ f : List Byte, f.length = 40 → be32 f 36 = crc32 (f.take 36) → crc32 f = 0#32

/-- spec/40_crc_engine.md section 2 and spec/30_encoding.md section 1: the pseudo-instruction CRC, on any bytes and from any
state, answers their CRC32 and changes only the port's accumulator. That the transactions stand in `pending` is the model's
choice (DESIGN CHOICE, assumption 1). -/
def Obligations.CrcPseudoInstructionAnswersTheCrc : Prop :=
  ∀ (bs : List Byte) (s : State) (rest : List HostEvent), s.params.wf = true →
    s.pending = issueAll (crcOfBytes bs) ++ rest →
    core.run (bs.length + 2) s = .next { s with
      crcAcc := crc32 bs, pending := rest, resp := some ⟨crc32 bs, false⟩ }

/-! ### Synchronizer and decoder -/

/-- spec/41_synchronizer.md R79: FINDMAGIC is the lowest index at which the magic starts, NONE where there is none; and two
occurrences are at least four bytes apart. -/
def Obligations.FindMagicGivesTheLowestIndex : Prop :=
  (∀ (b : List Byte) (k : Nat),
    findMagic b = some k ↔
      ((b.drop k).take 4 = [0xFE#8, 0x81#8, 0xFF#8, 0x56#8] ∧
        ∀ j < k, (b.drop j).take 4 ≠ [0xFE#8, 0x81#8, 0xFF#8, 0x56#8])) ∧
  (∀ b : List Byte, findMagic b = none ↔ ∀ j, (b.drop j).take 4 ≠ [0xFE#8, 0x81#8, 0xFF#8, 0x56#8]) ∧
  (∀ (b : List Byte) (j k : Nat), j < k →
    (b.drop j).take 4 = [0xFE#8, 0x81#8, 0xFF#8, 0x56#8] →
    (b.drop k).take 4 = [0xFE#8, 0x81#8, 0xFF#8, 0x56#8] → j + 4 ≤ k)

/-- spec/42_decoder.md R88 and R95: DECODE's one result, in the order length, header, CRC; a wrong header is found in bytes 0 to
3 alone, and then no CRC is computed. -/
def Obligations.DecodeReportsTheFirstFailingCheck : Prop :=
  ∀ (b : List Byte) (vc : Bool),
    (b.length < 40 → decodeFrame b vc = .incomplete) ∧
    (40 ≤ b.length → b.take 4 ≠ [0xFE#8, 0x81#8, 0xFF#8, 0x56#8] →
      ∃ w, decodeFrame b vc = .badHeader w 0#32 ∧ w.w10.getLsbD 8 = false ∧ w.w10.getLsbD 9 = false) ∧
    (40 ≤ b.length → b.take 4 = [0xFE#8, 0x81#8, 0xFF#8, 0x56#8] → vc = true →
      crc32 (b.take 36) ≠ be32 b 36 →
      ∃ w, decodeFrame b vc = .crcMismatch w (crc32 (b.take 36)) ∧ w.w10.getLsbD 8 = true ∧ w.w10.getLsbD 9 = false) ∧
    (40 ≤ b.length → b.take 4 = [0xFE#8, 0x81#8, 0xFF#8, 0x56#8] → vc = true →
      crc32 (b.take 36) = be32 b 36 →
      ∃ w, decodeFrame b vc = .ok w (crc32 (b.take 36)) ∧ w.w10.getLsbD 8 = true ∧ w.w10.getLsbD 9 = true) ∧
    (40 ≤ b.length → b.take 4 = [0xFE#8, 0x81#8, 0xFF#8, 0x56#8] → vc = false →
      ∃ w, decodeFrame b vc = .ok w 0#32 ∧ w.w10.getLsbD 8 = false ∧ w.w10.getLsbD 9 = false)

/-- spec/30_encoding.md section 6, spec/42_decoder.md section 1: whatever the result, the record is the ten big-endian words of
the first 40 bytes and its FLAGS: the inverted status bits, zero in every reserved bit, HEADER_OK exactly with the magic. -/
def Obligations.DecodedRecordIsTheFramesWords : Prop :=
  ∀ (b : List Byte) (vc : Bool) (w : Record) (crc : Word),
    (decodeFrame b vc = .ok w crc ∨ decodeFrame b vc = .crcMismatch w crc ∨ decodeFrame b vc = .badHeader w crc) →
    w.w0 = be32 b 0 ∧ w.w1 = be32 b 4 ∧ w.w2 = be32 b 8 ∧ w.w3 = be32 b 12 ∧ w.w4 = be32 b 16 ∧
    w.w5 = be32 b 20 ∧ w.w6 = be32 b 24 ∧ w.w7 = be32 b 28 ∧ w.w8 = be32 b 32 ∧ w.w9 = be32 b 36 ∧
    (∀ n, n = 0 ∨ n = 1 ∨ n = 2 ∨ n = 4 ∨ n = 5 ∨ n = 6 → w.w10.getLsbD n = !(w.w8.getLsbD (24 + n))) ∧
    (∀ n, n = 3 ∨ n = 7 ∨ 11 ≤ n → w.w10.getLsbD n = false) ∧
    (w.w10.getLsbD 10 = true ↔ w.w0 = 0xFE81FF56#32)

/-- spec/42_decoder.md R90: VALIDFLAGS, bit by bit, with the two worked values of the rule after it; and in every record FLAGS
bits 3 and 7 are 0 and the status byte stays in W8 bits 31:24. -/
def Obligations.ValidityFlagsInvertTheStatusBits : Prop :=
  (∀ (st : Byte) (n : Nat),
    (validFlags st).getLsbD n =
      if n = 0 ∨ n = 1 ∨ n = 2 ∨ n = 4 ∨ n = 5 ∨ n = 6 then !(st.getLsbD n) else false) ∧
  validFlags 0x00#8 = 0x77#32 ∧ validFlags 0x45#8 = 0x32#32 ∧
  (∀ (f : List Byte) (checked isMatch hdrOk : Bool),
    (recordOf f checked isMatch hdrOk).w10.extractLsb' 0 8 = (validFlags (byteAt f 32)).extractLsb' 0 8 ∧
    (recordOf f checked isMatch hdrOk).w8.extractLsb' 24 8 = byteAt f 32)

/-- spec/42_decoder.md R94: a frame built from any field values with its correct CRC decodes OK, with the check enabled or not,
and gives back the field patterns exactly. -/
def Obligations.EncodedFrameDecodesToItsFields : Prop :=
  ∀ (x : FrameFields) (vc : Bool), ∃ w crc, decodeFrame (encodeFrame x) vc = .ok w crc ∧
    w.w1 = x.gyroX ∧ w.w2 = x.gyroY ∧ w.w3 = x.gyroZ ∧ w.w4 = x.accelX ∧ w.w5 = x.accelY ∧ w.w6 = x.accelZ ∧
    w.w7 = x.timestamp ∧ w.w8.extractLsb' 24 8 = x.status ∧ w.w8.extractLsb' 16 8 = x.sequence ∧
    w.w8.extractLsb' 0 16 = x.temperature

/-! ### The change-detection filter -/

/-- `sub64`'s rounding, on whole units of 2^-1074: the result is a nearest multiple of the last place of a 53-bit significand, an
exact one where the value has at most 53 bits, and an even one where two are equally near. spec/00_scope.md section 5 names
binary64 and round-to-nearest-even; the 53-bit place, and what nearest and ties to even say on whole units, are taken from the
IEEE-754 standard (PRESUMED, assumption 7). -/
def Obligations.RoundingIsToNearestTiesToEven : Prop :=
  ∀ n : Nat,
    (n < 2 ^ 53 → roundUnits n = n) ∧
    (2 ^ 53 ≤ n → ∃ d q : Nat, roundUnits n = q * 2 ^ d ∧ 2 ^ (52 + d) ≤ n ∧ n < 2 ^ (53 + d) ∧
      (∀ p : Nat, ((n : Int) - (q * 2 ^ d : Nat)).natAbs ≤ ((n : Int) - (p * 2 ^ d : Nat)).natAbs) ∧
      (∀ p : Nat, p ≠ q → ((n : Int) - (q * 2 ^ d : Nat)).natAbs = ((n : Int) - (p * 2 ^ d : Nat)).natAbs →
        q % 2 = 0))

/-- spec/43_filter.md R99 and R100: a record is a change exactly when one of the three gyro words is farther than `thr_gyro` from
its axis of the snapshot, or one of the three accel words farther than `thr_accel` from its axis, or the temperature farther than
`thr_temp`; and "farther" is strict. -/
def Obligations.ChangedIsOneChannelBeyondItsThreshold : Prop :=
  (∀ (c : Settings) (w : Record) (p : Snapshot),
    let beyond (x q : Word) (thr : Dword) : Prop := gt64 (abs64 (sub64 (f32to64 x) (f32to64 q))) (f64 thr) = true
    (changed c w p = true ↔
      (beyond w.w1 p.gx c.thrGyro ∨ beyond w.w2 p.gy c.thrGyro ∨ beyond w.w3 p.gz c.thrGyro) ∨
      (beyond w.w4 p.ax c.thrAccel ∨ beyond w.w5 p.ay c.thrAccel ∨ beyond w.w6 p.az c.thrAccel) ∨
      gt64 (abs64 (sub64 (i16to64 (w.w8.extractLsb' 0 16).toInt) (i16to64 p.temp.toInt))) (f64 c.thrTemp) = true)) ∧
  (∀ x : F64, gt64 x x = false) ∧
  (∀ m n : Nat, gt64 (.fin false m) (.fin false n) = true ↔ n < m) ∧
  (∀ n : Nat, gt64 (.inf false) (.fin false n) = true)

/-- spec/43_filter.md section 2: what the comparison of one axis computes where the operands and the threshold are finite: the
difference of the two values, rounded once, against the threshold's value; with the worked values of that section. The values
that the patterns stand for, and the place of the rounding, are IEEE-754's (PRESUMED, assumption 7). -/
def Obligations.AxisDifferenceIsTheRoundedDifference : Prop :=
  (∀ a b : Word, a.extractLsb' 23 8 ≠ 0xFF#8 → b.extractLsb' 23 8 ≠ 0xFF#8 →
    absDiff32 a b = .fin false (roundUnits (units32 a - units32 b).natAbs) ∧
    ∀ d : Dword, d.extractLsb' 52 11 ≠ 0x7FF#11 →
      (gt64 (absDiff32 a b) (f64 d) = true ↔ units64 d < (roundUnits (units32 a - units32 b).natAbs : Int))) ∧
  absDiff32 0x7F7FFFFF#32 0x00000001#32 = f32to64 0x7F7FFFFF#32 ∧
  gt64 (absDiff32 0x3C23D70A#32 0#32) (f64 0x3F847AE147AE147B#64) = false ∧
  gt64 (absDiff32 0x3C23D70B#32 0#32) (f64 0x3F847AE147AE147B#64) = true

/-- spec/43_filter.md section 2: the temperature difference is exact; the temperature test holds exactly when it exceeds the
value of a finite threshold, of whatever sign; with the default threshold 1.0 a difference of one unit is no change while any
larger one is. The value that a threshold pattern stands for is IEEE-754's (PRESUMED, assumption 7). -/
def Obligations.TemperatureDifferenceIsExact : Prop :=
  (∀ t u : Half, absDiffTemp t u = .fin false ((t.toInt - u.toInt).natAbs * 2 ^ 1074)) ∧
  (∀ (c : Settings) (w : Record) (p : Snapshot), c.thrTemp.extractLsb' 52 11 ≠ 0x7FF#11 →
    (tempChanged c w p = true ↔
      units64 c.thrTemp < (((w.w8.extractLsb' 0 16).toInt - p.temp.toInt).natAbs * 2 ^ 1074 : Nat))) ∧
  (∀ (c : Settings) (w : Record) (p : Snapshot), c.thrTemp = 0x3FF0000000000000#64 →
    (tempChanged c w p = true ↔ 1 < ((w.w8.extractLsb' 0 16).toInt - p.temp.toInt).natAbs))

/-- spec/43_filter.md R102: the special values, on the bit patterns of the operands and the values of the thresholds. Which
patterns are NaNs, infinities and zeros is IEEE-754's (PRESUMED, assumption 7). -/
def Obligations.SpecialValuesInTheComparison : Prop :=
  (∀ (w q : Word) (t : F64),
    ((w.extractLsb' 23 8 = 0xFF#8 ∧ w.extractLsb' 0 23 ≠ 0#23) ∨ (q.extractLsb' 23 8 = 0xFF#8 ∧ q.extractLsb' 0 23 ≠ 0#23)) →
    gt64 (absDiff32 w q) t = false) ∧
  (∀ t : F64, gt64 (absDiff32 0x7F800000#32 0x7F800000#32) t = false) ∧
  (∀ (q : Word) (t : F64), q.extractLsb' 23 8 ≠ 0xFF#8 →
    (gt64 (absDiff32 0x7F800000#32 q) t = true ↔ t ≠ .nan ∧ t ≠ .inf false)) ∧
  (∀ (w q : Word) (d : Dword), d.extractLsb' 52 11 = 0x7FF#11 → d.extractLsb' 0 52 ≠ 0#52 →
    gt64 (absDiff32 w q) (f64 d) = false) ∧
  (∀ (w q : Word) (d : Dword), d.getLsbD 63 = true → d ≠ 0x8000000000000000#64 → f64 d ≠ .nan →
    (gt64 (absDiff32 w q) (f64 d) = true ↔ absDiff32 w q ≠ .nan)) ∧
  absDiff32 0x00000000#32 0x80000000#32 = .fin false 0 ∧ absDiff32 0x80000000#32 0x00000000#32 = .fin false 0

/-- spec/43_filter.md R106: a record equal to the snapshot is no change under thresholds that are not negative; under a negative
temperature threshold it is. -/
def Obligations.RepeatedRecordIsNoChange : Prop :=
  ∀ (c : Settings) (w : Record),
    (NotNegative c.thrGyro → NotNegative c.thrAccel → NotNegative c.thrTemp → changed c w (snap w) = false) ∧
    (¬ NotNegative c.thrTemp → changed c w (snap w) = true)

/-- spec/43_filter.md R105: the comparison and the snapshot read W1 to W6 and the temperature, and nothing else of the record,
the validity flags included; so records that differ in nothing else are no change, where no threshold is negative. -/
def Obligations.FilterComparesOnlyItsChannels : Prop :=
  ∀ (c : Settings) (w w' : Record) (p : Snapshot),
    w.w1 = w'.w1 → w.w2 = w'.w2 → w.w3 = w'.w3 → w.w4 = w'.w4 → w.w5 = w'.w5 → w.w6 = w'.w6 →
    w.w8.extractLsb' 0 16 = w'.w8.extractLsb' 0 16 →
    changed c w p = changed c w' p ∧ snap w = snap w' ∧
      (NotNegative c.thrGyro → NotNegative c.thrAccel → NotNegative c.thrTemp → changed c w (snap w') = false)

/-! ### WR PUSH and the pipeline -/

/-- spec/44_pipeline_and_output.md section 2: a push into a full queue is refused, and nothing but the error record changes. -/
def Obligations.PushIsRefusedWhileTheQueueIsFull : Prop :=
  ∀ (v : Word) (s : State), s.outq.length = s.params.outDepth →
    exec (.wrPush v) s = .next { s with
      errInfo := 0x00001510#32, seen := { s.seen with busError := true }, resp := some ⟨0#32, true⟩ }

/-- spec/60_exceptions.md section 2: an accepted push answers without error and, whatever the pipeline meets, leaves the
configuration, the CRC port, the error record and BUS_ERROR_SEEN as they were. -/
def Obligations.AcceptedPushTouchesOnlyThePipeline : Prop :=
  ∀ (v : Word) (s : State), s.outq.length ≠ s.params.outDepth →
    ∃ t, exec (.wrPush v) s = .next t ∧ t.resp = some ⟨0#32, false⟩ ∧
      t.params = s.params ∧ t.cfg = s.cfg ∧ t.crcAcc = s.crcAcc ∧ t.errInfo = s.errInfo ∧ t.pending = s.pending ∧
      t.seen.busError = s.seen.busError

/-- spec/41_synchronizer.md R81: where the buffer with the new byte holds no magic, exactly its last three bytes (or all, if
fewer) are kept, the others are counted, and nothing else changes. -/
def Obligations.PushWithoutMagicKeepsThreeBytes : Prop :=
  ∀ (v : Word) (s : State),
    let f := s.buf ++ [v.extractLsb' 0 8]
    let cut := f.length - min f.length 3
    s.outq.length ≠ s.params.outDepth → s.buf.length ≠ s.params.bufCap → findMagic f = none →
    exec (.wrPush v) s = .next { s with
      buf := f.drop cut
      cnt := { s.cnt with discarded := s.cnt.discarded + BitVec.ofNat 32 cut }
      resp := some ⟨0#32, false⟩ }

/-- spec/41_synchronizer.md R80 and spec/44_pipeline_and_output.md R113: where the magic is found at `k` and fewer than 40 bytes
follow, the `k` bytes before it are dropped and counted, and nothing else is written. -/
def Obligations.PushOfAnIncompleteFrameWaits : Prop :=
  ∀ (v : Word) (s : State) (k : Nat),
    let f := s.buf ++ [v.extractLsb' 0 8]
    s.outq.length ≠ s.params.outDepth → s.buf.length ≠ s.params.bufCap → findMagic f = some k → f.length - k < 40 →
    exec (.wrPush v) s = .next { s with
      buf := f.drop k
      cnt := { s.cnt with discarded := s.cnt.discarded + BitVec.ofNat 32 k }
      resp := some ⟨0#32, false⟩ }

/-- spec/44_pipeline_and_output.md R110, spec/43_filter.md section 3: a push that completes a frame whose checks pass consumes
its 40 bytes and emits or suppresses its record. -/
def Obligations.PushOfAGoodFrameEmitsOrSuppresses : Prop :=
  ∀ (v : Word) (s : State),
    let f := s.buf ++ [v.extractLsb' 0 8]
    let w := recordOf f s.cfg.validateCrc s.cfg.validateCrc true
    let crc := if s.cfg.validateCrc then crc32 (f.take 36) else 0#32
    s.outq.length ≠ s.params.outDepth → s.params.wf = true → f.length = 40 →
    f.take 4 = [0xFE#8, 0x81#8, 0xFF#8, 0x56#8] → (s.cfg.validateCrc = true → crc32 (f.take 36) = be32 f 36) →
    ((s.filt = none ∨ ∃ p, s.filt = some p ∧ changed s.cfg w p = true) →
      exec (.wrPush v) s = .next { s with
        buf := []
        outq := s.outq ++ [w]
        filt := some (snap w)
        diag := ⟨w, 0x101#32, crc⟩
        cnt := { s.cnt with framesOk := s.cnt.framesOk + 1#32, emitted := s.cnt.emitted + 1#32 }
        resp := some ⟨0#32, false⟩ }) ∧
    ((∃ p, s.filt = some p ∧ changed s.cfg w p = false) →
      exec (.wrPush v) s = .next { s with
        buf := []
        diag := ⟨w, 0x201#32, crc⟩
        cnt := { s.cnt with framesOk := s.cnt.framesOk + 1#32, suppressed := s.cnt.suppressed + 1#32 }
        resp := some ⟨0#32, false⟩ })

/-- spec/44_pipeline_and_output.md section 1, spec/60_exceptions.md section 2: a push that completes a frame with a wrong CRC,
under the default policy: the frame is dropped by one byte, and the remaining 39 bytes are searched again. -/
def Obligations.PushOfABadFrameIsDroppedByOneByte : Prop :=
  ∀ (v : Word) (s : State),
    let f := s.buf ++ [v.extractLsb' 0 8]
    let cut := match findMagic (f.drop 1) with | none => 36 | some k => k
    s.outq.length ≠ s.params.outDepth → s.params.wf = true → f.length = 40 →
    f.take 4 = [0xFE#8, 0x81#8, 0xFF#8, 0x56#8] →
    s.cfg.validateCrc = true → crc32 (f.take 36) ≠ be32 f 36 → s.cfg.acceptBadCrc = false →
    exec (.wrPush v) s = .next { s with
      buf := f.drop (1 + cut)
      diag := ⟨recordOf f true false true, 0x003#32, crc32 (f.take 36)⟩
      cnt := { s.cnt with
        crcMismatch := s.cnt.crcMismatch + 1#32, discarded := s.cnt.discarded + BitVec.ofNat 32 (1 + cut) }
      seen := { s.seen with crcMismatch := true }
      resp := some ⟨0#32, false⟩ }

/-- spec/44_pipeline_and_output.md section 1: the same frame under ACCEPT_BAD_CRC = 1 goes to the filter, its record marked
CRC_CHECKED without CRC_MATCH. -/
def Obligations.PushOfAnAcceptedBadFrameIsFiltered : Prop :=
  ∀ (v : Word) (s : State),
    let f := s.buf ++ [v.extractLsb' 0 8]
    let w := recordOf f true false true
    s.outq.length ≠ s.params.outDepth → s.params.wf = true → f.length = 40 →
    f.take 4 = [0xFE#8, 0x81#8, 0xFF#8, 0x56#8] →
    s.cfg.validateCrc = true → crc32 (f.take 36) ≠ be32 f 36 → s.cfg.acceptBadCrc = true →
    w.w10.getLsbD 8 = true ∧ w.w10.getLsbD 9 = false ∧
    ((s.filt = none ∨ ∃ p, s.filt = some p ∧ changed s.cfg w p = true) →
      exec (.wrPush v) s = .next { s with
        buf := []
        outq := s.outq ++ [w]
        filt := some (snap w)
        diag := ⟨w, 0x104#32, crc32 (f.take 36)⟩
        cnt := { s.cnt with crcMismatch := s.cnt.crcMismatch + 1#32, emitted := s.cnt.emitted + 1#32 }
        seen := { s.seen with crcMismatch := true }
        resp := some ⟨0#32, false⟩ }) ∧
    ((∃ p, s.filt = some p ∧ changed s.cfg w p = false) →
      exec (.wrPush v) s = .next { s with
        buf := []
        diag := ⟨w, 0x204#32, crc32 (f.take 36)⟩
        cnt := { s.cnt with crcMismatch := s.cnt.crcMismatch + 1#32, suppressed := s.cnt.suppressed + 1#32 }
        seen := { s.seen with crcMismatch := true }
        resp := some ⟨0#32, false⟩ })

/-- spec/41_synchronizer.md section 3, spec/60_exceptions.md section 2: a push into a full buffer records the overflow and counts
it once, whatever PROCESS does next; it does what a push does from the state in which the oldest byte is already dropped and
counted and the overflow recorded; and where no magic remains, the state it leaves is written out. -/
def Obligations.PushIntoAFullBufferDropsTheOldestByte : Prop :=
  ∀ (v : Word) (s : State),
    let f := s.buf.drop 1 ++ [v.extractLsb' 0 8]
    let cut := f.length - min f.length 3
    s.outq.length ≠ s.params.outDepth → s.buf.length = s.params.bufCap →
    (∃ t, exec (.wrPush v) s = .next t ∧ t.seen.overflow = true ∧ t.cnt.overflow = s.cnt.overflow + 1#32) ∧
    (s.params.wf = true →
      exec (.wrPush v) s = exec (.wrPush v) { s with
        buf := s.buf.drop 1
        cnt := { s.cnt with discarded := s.cnt.discarded + 1#32, overflow := s.cnt.overflow + 1#32 }
        seen := { s.seen with overflow := true } }) ∧
    (findMagic f = none →
      exec (.wrPush v) s = .next { s with
        buf := f.drop cut
        cnt := { s.cnt with
          discarded := s.cnt.discarded + 1#32 + BitVec.ofNat 32 cut, overflow := s.cnt.overflow + 1#32 }
        seen := { s.seen with overflow := true }
        resp := some ⟨0#32, false⟩ })

/-- spec/44_pipeline_and_output.md R115: in every state of the invariant, one push adds at most one record and makes at most one
decode attempt. -/
def Obligations.PushAddsAtMostOneRecord : Prop :=
  ∀ (v : Word) (s t : State), s.Inv → exec (.wrPush v) s = .next t →
    (t.outq = s.outq ∨ ∃ w, t.outq = s.outq ++ [w]) ∧ (t.attempts = s.attempts ∨ t.attempts = s.attempts + 1#32)

/-- spec/44_pipeline_and_output.md R118: noise without the magic, then one valid frame, pushed into an empty buffer, gives exactly
one decode attempt, with result OK, and discards every noise byte, whatever VALIDATE_CRC is; the diagnostic record is the
frame's, all eleven words; with no snapshot the record is emitted. -/
def Obligations.NoiseThenOneFrameGivesOneRecord : Prop :=
  ∀ (noise : List Byte) (x : FrameFields) (s : State),
    s.params.wf = true → s.buf = [] → s.outq.length < s.params.outDepth → findMagic noise = none →
    ∃ t, pushAll (noise ++ encodeFrame x) s = .next t ∧ t.buf = [] ∧
      t.attempts = s.attempts + 1#32 ∧ t.cnt.framesOk = s.cnt.framesOk + 1#32 ∧
      t.cnt.discarded = s.cnt.discarded + BitVec.ofNat 32 noise.length ∧
      t.diag.record = recordOf (encodeFrame x) s.cfg.validateCrc s.cfg.validateCrc true ∧
      (s.filt = none → t.outq = s.outq ++ [t.diag.record] ∧ t.filt = some (snap t.diag.record))

/-! ### Invariants and rules about the whole machine -/

/-- The invariant holds at reset. -/
def Obligations.ResetMeetsTheInvariant : Prop :=
  State.reset.Inv

/-- spec/44_pipeline_and_output.md section 1, spec/10_state.md sections 4 and 5: every step, from every state of the invariant,
keeps it: the buffer is quiescent, the queue is within its depth and its records carry the magic and flags that agree with their
words, the diagnostic code and err_info hold legal values. -/
def Obligations.EveryStepKeepsTheInvariant : Prop :=
  ∀ s t : State, s.Inv → step s = .next t → t.Inv

/-- spec/41_synchronizer.md R84 and spec/42_decoder.md section 4: in the states of the invariant neither BadHeader nor
BufferOverflow is ever recorded. -/
def Obligations.BadHeaderAndOverflowNeverHappen : Prop :=
  ∀ s t : State, s.Inv → s.NeverBad → step s = .next t → t.NeverBad

/-- spec/45_control_registers.md section 6, the byte balance, transaction by transaction: an accepted push adds one byte to the
account, everything else leaves it, but for the commands that clear the counters or the buffer. -/
def Obligations.EveryPushedByteIsAccountedFor : Prop :=
  ∀ (i : Instr) (s t : State), s.params.wf = true → exec i s = .next t →
    (∀ v, i = .wrPush v → s.outq.length ≠ s.params.outDepth → t.bytesAccounted = s.bytesAccounted + 1#32) ∧
    ((∀ v, i = .wrPush v → s.outq.length = s.params.outDepth) →
      (∀ v, i = .wrCmd v → v.getLsbD 0 = false ∧ v.getLsbD 1 = false ∧ v.getLsbD 4 = false) →
      t.bytesAccounted = s.bytesAccounted)

/-- spec/45_control_registers.md section 6, the filter balance, transaction by transaction: the records filtered are the frames
found good, and under ACCEPT_BAD_CRC = 1 the mismatched ones as well. -/
def Obligations.FilteredRecordsBalanceDecodedFrames : Prop :=
  ∀ (i : Instr) (s t : State), exec i s = .next t →
    (∀ v, i = .wrCmd v → v.getLsbD 0 = false ∧ v.getLsbD 4 = false) →
    (s.cfg.acceptBadCrc = false → t.filtered - t.cnt.framesOk = s.filtered - s.cnt.framesOk) ∧
    (s.cfg.acceptBadCrc = true →
      t.filtered - t.cnt.framesOk - t.cnt.crcMismatch = s.filtered - s.cnt.framesOk - s.cnt.crcMismatch)

/-- spec/10_state.md section 3: no transaction but a write of CTRL or of a threshold half changes the configuration. -/
def Obligations.OnlyConfigurationWritesChangeTheConfiguration : Prop :=
  ∀ (i : Instr) (s t : State), exec i s = .next t →
    (∀ v, i ≠ .wrCtrl v ∧ i ≠ .wrThrGyroLo v ∧ i ≠ .wrThrGyroHi v ∧ i ≠ .wrThrAccelLo v ∧ i ≠ .wrThrAccelHi v ∧
      i ≠ .wrThrTempLo v ∧ i ≠ .wrThrTempHi v) →
    t.cfg = s.cfg

/-- spec/10_state.md section 4: no transaction but WR CRC_DATA, CMD.CRC_INIT and CMD.SOFT_RESET changes crc_acc, and no push
reads it: a push does the same whatever it holds. -/
def Obligations.CrcPortAndPipelineDoNotInterfere : Prop :=
  (∀ (i : Instr) (s t : State), exec i s = .next t → (∀ v, i ≠ .wrCrcData v) →
    (∀ v, i = .wrCmd v → v.getLsbD 0 = false ∧ v.getLsbD 3 = false) → t.crcAcc = s.crcAcc) ∧
  (∀ (v c : Word) (s t : State), exec (.wrPush v) s = .next t →
    exec (.wrPush v) { s with crcAcc := c } = .next { t with crcAcc := c })

/-- spec/10_state.md R30: a sticky bit that is set stays set until its STATUS bit is written with 1 or a soft reset is
performed. -/
def Obligations.StickyBitsStaySet : Prop :=
  ∀ (i : Instr) (s t : State), exec i s = .next t → (∀ v, i = .wrCmd v → v.getLsbD 0 = false) →
    (s.seen.badHeader = true → (∀ v, i = .wrStatus v → v.getLsbD 8 = false) → t.seen.badHeader = true) ∧
    (s.seen.crcMismatch = true → (∀ v, i = .wrStatus v → v.getLsbD 9 = false) → t.seen.crcMismatch = true) ∧
    (s.seen.overflow = true → (∀ v, i = .wrStatus v → v.getLsbD 10 = false) → t.seen.overflow = true) ∧
    (s.seen.busError = true → (∀ v, i = .wrStatus v → v.getLsbD 11 = false) → t.seen.busError = true)
end

