-- ==== Sys2Proof/Laws/Encoding.lean ====
section
/-! SUPPORT. The fields of a transaction word (spec/30_encoding.md R54), and the register map (R58) against the access lists of
WellFormed.lean. -/

namespace Sys2Proof

/-- Every bit of a transaction's word: WDATA below bit 32, ADDR in bits 39:32, W at bit 40. -/
theorem toWord_getLsbD (t : Transaction) (i : Nat) :
    t.toWord.getLsbD i =
      if i < 32 then t.wdata.getLsbD i
      else if i < 40 then t.addr.getLsbD (i - 32)
      else (decide (i = 40) && t.write) := by
  have h := BitVec.getLsbD_append (x := BitVec.ofBool t.write ++ t.addr) (y := t.wdata) (i := i)
  rw [BitVec.getLsbD_append (x := BitVec.ofBool t.write) (y := t.addr) (i := i - 32)] at h
  refine h.trans ?_
  by_cases h32 : i < 32
  · simp [h32]
  · by_cases h40 : i < 40
    · simp [h32, h40, show i - 32 < 8 by omega]
    · simp only [h32, h40, show ¬ i - 32 < 8 by omega, if_false, BitVec.getLsbD_ofBool,
        show i - 32 - 8 = i - 40 by omega]
      by_cases h41 : i = 40
      · simp [h41]
      · simp [h41, show i - 40 ≠ 0 by omega]

/-- A word carries its fields. -/
@[simp] theorem ofWord_toWord (t : Transaction) : Transaction.ofWord t.toWord = t := by
  obtain ⟨w, a, v⟩ := t
  simp only [Transaction.ofWord, Transaction.mk.injEq]
  refine ⟨?_, ?_, ?_⟩
  · rw [toWord_getLsbD]; simp
  · apply BitVec.eq_of_getLsbD_eq
    intro i hi
    rw [BitVec.getLsbD_extractLsb', toWord_getLsbD]
    simp [hi, show ¬ 32 + i < 32 by omega, show 32 + i < 40 by omega]
  · apply BitVec.eq_of_getLsbD_eq
    intro i hi
    rw [BitVec.getLsbD_extractLsb', toWord_getLsbD]
    simp [hi]

/-- The fields of a word make the word again. -/
theorem toWord_ofWord (x : BusWord) : (Transaction.ofWord x).toWord = x := by
  apply BitVec.eq_of_getLsbD_eq
  intro i hi
  rw [toWord_getLsbD]
  simp only [Transaction.ofWord, BitVec.getLsbD_extractLsb']
  by_cases h32 : i < 32
  · simp [h32]
  · by_cases h40 : i < 40
    · simp [h32, h40, show i - 32 < 8 by omega, show 32 + (i - 32) = i by omega]
    · obtain rfl : i = 40 := by omega
      simp

/-- A word is decoded by its fields alone. -/
theorem decode_toWord (t : Transaction) : decode t.toWord = decodeTransaction t := by
  simp [decode]

/-- A read that names a readable register is its row (R55). -/
theorem decodeTransaction_read (a : Addr) (v : Word) (r : Reg) (i : Instr) (ha : a.extractLsb' 0 2 = 0#2)
    (hr : regAt a = some r) (hi : readRow r = some i) : decodeTransaction ⟨false, a, v⟩ = .ok i := by
  simp [decodeTransaction, ha, hr, hi]

/-- A write that names a writable register is its row, its operand the whole WDATA (R55, R65). -/
theorem decodeTransaction_write (a : Addr) (v : Word) (r : Reg) (i : Instr) (ha : a.extractLsb' 0 2 = 0#2)
    (hr : regAt a = some r) (hi : writeRow v r = some i) : decodeTransaction ⟨true, a, v⟩ = .ok i := by
  simp [decodeTransaction, ha, hr, hi]

/-- What decoding can answer, said once (R55): one of the four rejections, each with its reason, or the row of a register. -/
theorem decodeTransaction_cases (t : Transaction) :
    (t.addr.extractLsb' 0 2 ≠ 0#2 ∧ decodeTransaction t = .error .misaligned) ∨
      (t.addr.extractLsb' 0 2 = 0#2 ∧ regAt t.addr = none ∧ decodeTransaction t = .error .unmapped) ∨
      (∃ r, t.addr.extractLsb' 0 2 = 0#2 ∧ regAt t.addr = some r ∧ t.write = true ∧ writeRow t.wdata r = none ∧
        decodeTransaction t = .error .writeRo) ∨
      (∃ r, t.addr.extractLsb' 0 2 = 0#2 ∧ regAt t.addr = some r ∧ t.write = false ∧ readRow r = none ∧
        decodeTransaction t = .error .readWo) ∨
      (∃ r i, t.addr.extractLsb' 0 2 = 0#2 ∧ regAt t.addr = some r ∧ t.write = true ∧ writeRow t.wdata r = some i ∧
        decodeTransaction t = .ok i) ∨
      (∃ r i, t.addr.extractLsb' 0 2 = 0#2 ∧ regAt t.addr = some r ∧ t.write = false ∧ readRow r = some i ∧
        decodeTransaction t = .ok i) := by
  unfold decodeTransaction
  by_cases ha : t.addr.extractLsb' 0 2 = 0#2
  · simp only [ha, ne_eq, not_true_eq_false, if_false]
    cases hr : regAt t.addr with
    | none => simp
    | some r =>
      cases hw : t.write with
      | true => cases hi : writeRow t.wdata r <;> simp [hi]
      | false => cases hi : readRow r <;> simp [hi]
  · simp [ha]

/-- The register map names a register exactly at the mapped slots. -/
theorem regAt_isSome_eq_mapped : ∀ a : Addr, (regAt a).isSome = Addr.mapped a := by decide

/-- A mapped slot is aligned. -/
theorem aligned_of_mapped : ∀ a : Addr, Addr.mapped a = true → Addr.aligned a = true := by decide

/-- `ADDR[1:0] = 0`, said by the field and by the remainder. -/
theorem lowBits_eq_zero_iff_aligned :
    ∀ a : Addr, a.extractLsb' 0 2 = 0#2 ↔ Addr.aligned a = true := by decide

/-- Whether a register can be written does not depend on the value. -/
theorem writeRow_isNone (v : Word) (r : Reg) : (writeRow v r).isNone = (writeRow 0#32 r).isNone := by
  cases r <;> rfl

/-- The register at a slot has no write row exactly when the slot is read-only. -/
theorem writeRow_none_iff_readOnly :
    ∀ a : Addr, ((regAt a).any fun r => (writeRow 0#32 r).isNone) = readOnlyOffsets.contains a.toNat := by decide

/-- The register at a slot has no read row exactly when the slot is write-only. -/
theorem readRow_none_iff_writeOnly :
    ∀ a : Addr, ((regAt a).any fun r => (readRow r).isNone) = writeOnlyOffsets.contains a.toNat := by decide

end Sys2Proof
end

