-- ==== Sys2Proof/Laws/State.lean ====
section
/-! SUPPORT. What each state update of the model leaves in each field of State: one lemma a field and an update, true by rfl, so
that no proof unfolds an update. -/

namespace Sys2Proof.Machine

@[simp] theorem answer_params (s : State) (v : Word) (e : Bool) : (s.answer v e).params = s.params := rfl
@[simp] theorem answer_cfg (s : State) (v : Word) (e : Bool) : (s.answer v e).cfg = s.cfg := rfl
@[simp] theorem answer_buf (s : State) (v : Word) (e : Bool) : (s.answer v e).buf = s.buf := rfl
@[simp] theorem answer_filt (s : State) (v : Word) (e : Bool) : (s.answer v e).filt = s.filt := rfl
@[simp] theorem answer_outq (s : State) (v : Word) (e : Bool) : (s.answer v e).outq = s.outq := rfl
@[simp] theorem answer_diag (s : State) (v : Word) (e : Bool) : (s.answer v e).diag = s.diag := rfl
@[simp] theorem answer_crcAcc (s : State) (v : Word) (e : Bool) : (s.answer v e).crcAcc = s.crcAcc := rfl
@[simp] theorem answer_seen (s : State) (v : Word) (e : Bool) : (s.answer v e).seen = s.seen := rfl
@[simp] theorem answer_cnt (s : State) (v : Word) (e : Bool) : (s.answer v e).cnt = s.cnt := rfl
@[simp] theorem answer_errInfo (s : State) (v : Word) (e : Bool) : (s.answer v e).errInfo = s.errInfo := rfl
@[simp] theorem answer_pending (s : State) (v : Word) (e : Bool) : (s.answer v e).pending = s.pending := rfl
@[simp] theorem answer_resp (s : State) (v : Word) (e : Bool) : (s.answer v e).resp = some ⟨v, e⟩ := rfl

@[simp] theorem raiseBusError_params (c : BusCause) (w : Bool) (a : Addr) (s : State) : (raiseBusError c w a s).params = s.params := rfl
@[simp] theorem raiseBusError_cfg (c : BusCause) (w : Bool) (a : Addr) (s : State) : (raiseBusError c w a s).cfg = s.cfg := rfl
@[simp] theorem raiseBusError_buf (c : BusCause) (w : Bool) (a : Addr) (s : State) : (raiseBusError c w a s).buf = s.buf := rfl
@[simp] theorem raiseBusError_filt (c : BusCause) (w : Bool) (a : Addr) (s : State) : (raiseBusError c w a s).filt = s.filt := rfl
@[simp] theorem raiseBusError_outq (c : BusCause) (w : Bool) (a : Addr) (s : State) : (raiseBusError c w a s).outq = s.outq := rfl
@[simp] theorem raiseBusError_diag (c : BusCause) (w : Bool) (a : Addr) (s : State) : (raiseBusError c w a s).diag = s.diag := rfl
@[simp] theorem raiseBusError_crcAcc (c : BusCause) (w : Bool) (a : Addr) (s : State) : (raiseBusError c w a s).crcAcc = s.crcAcc := rfl
@[simp] theorem raiseBusError_seen (c : BusCause) (w : Bool) (a : Addr) (s : State) : (raiseBusError c w a s).seen = { s.seen with busError := true } := rfl
@[simp] theorem raiseBusError_cnt (c : BusCause) (w : Bool) (a : Addr) (s : State) : (raiseBusError c w a s).cnt = s.cnt := rfl
@[simp] theorem raiseBusError_errInfo (c : BusCause) (w : Bool) (a : Addr) (s : State) : (raiseBusError c w a s).errInfo = errInfoWord c w a := rfl
@[simp] theorem raiseBusError_pending (c : BusCause) (w : Bool) (a : Addr) (s : State) : (raiseBusError c w a s).pending = s.pending := rfl
@[simp] theorem raiseBusError_resp (c : BusCause) (w : Bool) (a : Addr) (s : State) : (raiseBusError c w a s).resp = some ⟨0#32, true⟩ := rfl

@[simp] theorem softReset_params (s : State) : (softReset s).params = s.params := rfl
@[simp] theorem softReset_cfg (s : State) : (softReset s).cfg = s.cfg := rfl
@[simp] theorem softReset_buf (s : State) : (softReset s).buf = [] := rfl
@[simp] theorem softReset_filt (s : State) : (softReset s).filt = none := rfl
@[simp] theorem softReset_outq (s : State) : (softReset s).outq = [] := rfl
@[simp] theorem softReset_diag (s : State) : (softReset s).diag = Diag.zero := rfl
@[simp] theorem softReset_crcAcc (s : State) : (softReset s).crcAcc = Config.crcInit := rfl
@[simp] theorem softReset_seen (s : State) : (softReset s).seen = Sticky.clear := rfl
@[simp] theorem softReset_cnt (s : State) : (softReset s).cnt = Counters.zero := rfl
@[simp] theorem softReset_errInfo (s : State) : (softReset s).errInfo = 0#32 := rfl
@[simp] theorem softReset_pending (s : State) : (softReset s).pending = s.pending := rfl
@[simp] theorem softReset_resp (s : State) : (softReset s).resp = s.resp := rfl

@[simp] theorem hardReset_params (s : State) : (hardReset s).params = s.params := rfl
@[simp] theorem hardReset_cfg (s : State) : (hardReset s).cfg = Settings.standard := rfl
@[simp] theorem hardReset_buf (s : State) : (hardReset s).buf = [] := rfl
@[simp] theorem hardReset_filt (s : State) : (hardReset s).filt = none := rfl
@[simp] theorem hardReset_outq (s : State) : (hardReset s).outq = [] := rfl
@[simp] theorem hardReset_diag (s : State) : (hardReset s).diag = Diag.zero := rfl
@[simp] theorem hardReset_crcAcc (s : State) : (hardReset s).crcAcc = Config.crcInit := rfl
@[simp] theorem hardReset_seen (s : State) : (hardReset s).seen = Sticky.clear := rfl
@[simp] theorem hardReset_cnt (s : State) : (hardReset s).cnt = Counters.zero := rfl
@[simp] theorem hardReset_errInfo (s : State) : (hardReset s).errInfo = 0#32 := rfl
@[simp] theorem hardReset_pending (s : State) : (hardReset s).pending = s.pending := rfl
@[simp] theorem hardReset_resp (s : State) : (hardReset s).resp = none := rfl

@[simp] theorem issueNext_params (x : BusWord) (s : State) : (issueNext x s).params = s.params := rfl
@[simp] theorem issueNext_cfg (x : BusWord) (s : State) : (issueNext x s).cfg = s.cfg := rfl
@[simp] theorem issueNext_buf (x : BusWord) (s : State) : (issueNext x s).buf = s.buf := rfl
@[simp] theorem issueNext_filt (x : BusWord) (s : State) : (issueNext x s).filt = s.filt := rfl
@[simp] theorem issueNext_outq (x : BusWord) (s : State) : (issueNext x s).outq = s.outq := rfl
@[simp] theorem issueNext_diag (x : BusWord) (s : State) : (issueNext x s).diag = s.diag := rfl
@[simp] theorem issueNext_crcAcc (x : BusWord) (s : State) : (issueNext x s).crcAcc = s.crcAcc := rfl
@[simp] theorem issueNext_seen (x : BusWord) (s : State) : (issueNext x s).seen = s.seen := rfl
@[simp] theorem issueNext_cnt (x : BusWord) (s : State) : (issueNext x s).cnt = s.cnt := rfl
@[simp] theorem issueNext_errInfo (x : BusWord) (s : State) : (issueNext x s).errInfo = s.errInfo := rfl
@[simp] theorem issueNext_pending (x : BusWord) (s : State) : (issueNext x s).pending = .transaction x :: s.pending := rfl
@[simp] theorem issueNext_resp (x : BusWord) (s : State) : (issueNext x s).resp = s.resp := rfl

@[simp] theorem discardBytes_params (k : Nat) (s : State) : (discardBytes k s).params = s.params := rfl
@[simp] theorem discardBytes_cfg (k : Nat) (s : State) : (discardBytes k s).cfg = s.cfg := rfl
@[simp] theorem discardBytes_buf (k : Nat) (s : State) : (discardBytes k s).buf = s.buf.drop k := rfl
@[simp] theorem discardBytes_filt (k : Nat) (s : State) : (discardBytes k s).filt = s.filt := rfl
@[simp] theorem discardBytes_outq (k : Nat) (s : State) : (discardBytes k s).outq = s.outq := rfl
@[simp] theorem discardBytes_diag (k : Nat) (s : State) : (discardBytes k s).diag = s.diag := rfl
@[simp] theorem discardBytes_crcAcc (k : Nat) (s : State) : (discardBytes k s).crcAcc = s.crcAcc := rfl
@[simp] theorem discardBytes_seen (k : Nat) (s : State) : (discardBytes k s).seen = s.seen := rfl
@[simp] theorem discardBytes_cnt (k : Nat) (s : State) : (discardBytes k s).cnt = { s.cnt with discarded := s.cnt.discarded + BitVec.ofNat 32 k } := rfl
@[simp] theorem discardBytes_errInfo (k : Nat) (s : State) : (discardBytes k s).errInfo = s.errInfo := rfl
@[simp] theorem discardBytes_pending (k : Nat) (s : State) : (discardBytes k s).pending = s.pending := rfl
@[simp] theorem discardBytes_resp (k : Nat) (s : State) : (discardBytes k s).resp = s.resp := rfl

@[simp] theorem appendByte_params (b : Byte) (s : State) : (appendByte b s).params = s.params := rfl
@[simp] theorem appendByte_cfg (b : Byte) (s : State) : (appendByte b s).cfg = s.cfg := rfl
@[simp] theorem appendByte_buf (b : Byte) (s : State) : (appendByte b s).buf = s.buf ++ [b] := rfl
@[simp] theorem appendByte_filt (b : Byte) (s : State) : (appendByte b s).filt = s.filt := rfl
@[simp] theorem appendByte_outq (b : Byte) (s : State) : (appendByte b s).outq = s.outq := rfl
@[simp] theorem appendByte_diag (b : Byte) (s : State) : (appendByte b s).diag = s.diag := rfl
@[simp] theorem appendByte_crcAcc (b : Byte) (s : State) : (appendByte b s).crcAcc = s.crcAcc := rfl
@[simp] theorem appendByte_seen (b : Byte) (s : State) : (appendByte b s).seen = s.seen := rfl
@[simp] theorem appendByte_cnt (b : Byte) (s : State) : (appendByte b s).cnt = s.cnt := rfl
@[simp] theorem appendByte_errInfo (b : Byte) (s : State) : (appendByte b s).errInfo = s.errInfo := rfl
@[simp] theorem appendByte_pending (b : Byte) (s : State) : (appendByte b s).pending = s.pending := rfl
@[simp] theorem appendByte_resp (b : Byte) (s : State) : (appendByte b s).resp = s.resp := rfl

@[simp] theorem recordAttempt_params (w : Record) (crc : Word) (s : State) : (recordAttempt w crc s).params = s.params := rfl
@[simp] theorem recordAttempt_cfg (w : Record) (crc : Word) (s : State) : (recordAttempt w crc s).cfg = s.cfg := rfl
@[simp] theorem recordAttempt_buf (w : Record) (crc : Word) (s : State) : (recordAttempt w crc s).buf = s.buf := rfl
@[simp] theorem recordAttempt_filt (w : Record) (crc : Word) (s : State) : (recordAttempt w crc s).filt = s.filt := rfl
@[simp] theorem recordAttempt_outq (w : Record) (crc : Word) (s : State) : (recordAttempt w crc s).outq = s.outq := rfl
@[simp] theorem recordAttempt_diag (w : Record) (crc : Word) (s : State) : (recordAttempt w crc s).diag = { s.diag with record := w, crcCalc := crc } := rfl
@[simp] theorem recordAttempt_crcAcc (w : Record) (crc : Word) (s : State) : (recordAttempt w crc s).crcAcc = s.crcAcc := rfl
@[simp] theorem recordAttempt_seen (w : Record) (crc : Word) (s : State) : (recordAttempt w crc s).seen = s.seen := rfl
@[simp] theorem recordAttempt_cnt (w : Record) (crc : Word) (s : State) : (recordAttempt w crc s).cnt = s.cnt := rfl
@[simp] theorem recordAttempt_errInfo (w : Record) (crc : Word) (s : State) : (recordAttempt w crc s).errInfo = s.errInfo := rfl
@[simp] theorem recordAttempt_pending (w : Record) (crc : Word) (s : State) : (recordAttempt w crc s).pending = s.pending := rfl
@[simp] theorem recordAttempt_resp (w : Record) (crc : Word) (s : State) : (recordAttempt w crc s).resp = s.resp := rfl

@[simp] theorem setDiagCode_params (v : Word) (s : State) : (setDiagCode v s).params = s.params := rfl
@[simp] theorem setDiagCode_cfg (v : Word) (s : State) : (setDiagCode v s).cfg = s.cfg := rfl
@[simp] theorem setDiagCode_buf (v : Word) (s : State) : (setDiagCode v s).buf = s.buf := rfl
@[simp] theorem setDiagCode_filt (v : Word) (s : State) : (setDiagCode v s).filt = s.filt := rfl
@[simp] theorem setDiagCode_outq (v : Word) (s : State) : (setDiagCode v s).outq = s.outq := rfl
@[simp] theorem setDiagCode_diag (v : Word) (s : State) : (setDiagCode v s).diag = { s.diag with code := v } := rfl
@[simp] theorem setDiagCode_crcAcc (v : Word) (s : State) : (setDiagCode v s).crcAcc = s.crcAcc := rfl
@[simp] theorem setDiagCode_seen (v : Word) (s : State) : (setDiagCode v s).seen = s.seen := rfl
@[simp] theorem setDiagCode_cnt (v : Word) (s : State) : (setDiagCode v s).cnt = s.cnt := rfl
@[simp] theorem setDiagCode_errInfo (v : Word) (s : State) : (setDiagCode v s).errInfo = s.errInfo := rfl
@[simp] theorem setDiagCode_pending (v : Word) (s : State) : (setDiagCode v s).pending = s.pending := rfl
@[simp] theorem setDiagCode_resp (v : Word) (s : State) : (setDiagCode v s).resp = s.resp := rfl

@[simp] theorem consumeFrame_params (s : State) : (consumeFrame s).params = s.params := rfl
@[simp] theorem consumeFrame_cfg (s : State) : (consumeFrame s).cfg = s.cfg := rfl
@[simp] theorem consumeFrame_buf (s : State) : (consumeFrame s).buf = s.buf.drop Config.frameLen := rfl
@[simp] theorem consumeFrame_filt (s : State) : (consumeFrame s).filt = s.filt := rfl
@[simp] theorem consumeFrame_outq (s : State) : (consumeFrame s).outq = s.outq := rfl
@[simp] theorem consumeFrame_diag (s : State) : (consumeFrame s).diag = s.diag := rfl
@[simp] theorem consumeFrame_crcAcc (s : State) : (consumeFrame s).crcAcc = s.crcAcc := rfl
@[simp] theorem consumeFrame_seen (s : State) : (consumeFrame s).seen = s.seen := rfl
@[simp] theorem consumeFrame_cnt (s : State) : (consumeFrame s).cnt = s.cnt := rfl
@[simp] theorem consumeFrame_errInfo (s : State) : (consumeFrame s).errInfo = s.errInfo := rfl
@[simp] theorem consumeFrame_pending (s : State) : (consumeFrame s).pending = s.pending := rfl
@[simp] theorem consumeFrame_resp (s : State) : (consumeFrame s).resp = s.resp := rfl

@[simp] theorem filterUpdate_emitted_params (w : Record) (s : State) : (filterUpdate w s .emitted).params = s.params := rfl
@[simp] theorem filterUpdate_emitted_cfg (w : Record) (s : State) : (filterUpdate w s .emitted).cfg = s.cfg := rfl
@[simp] theorem filterUpdate_emitted_buf (w : Record) (s : State) : (filterUpdate w s .emitted).buf = s.buf := rfl
@[simp] theorem filterUpdate_emitted_filt (w : Record) (s : State) : (filterUpdate w s .emitted).filt = some (snap w) := rfl
@[simp] theorem filterUpdate_emitted_outq (w : Record) (s : State) : (filterUpdate w s .emitted).outq = s.outq ++ [w] := rfl
@[simp] theorem filterUpdate_emitted_diag (w : Record) (s : State) : (filterUpdate w s .emitted).diag = s.diag := rfl
@[simp] theorem filterUpdate_emitted_crcAcc (w : Record) (s : State) : (filterUpdate w s .emitted).crcAcc = s.crcAcc := rfl
@[simp] theorem filterUpdate_emitted_seen (w : Record) (s : State) : (filterUpdate w s .emitted).seen = s.seen := rfl
@[simp] theorem filterUpdate_emitted_cnt (w : Record) (s : State) : (filterUpdate w s .emitted).cnt = { s.cnt with emitted := s.cnt.emitted + 1#32 } := rfl
@[simp] theorem filterUpdate_emitted_errInfo (w : Record) (s : State) : (filterUpdate w s .emitted).errInfo = s.errInfo := rfl
@[simp] theorem filterUpdate_emitted_pending (w : Record) (s : State) : (filterUpdate w s .emitted).pending = s.pending := rfl
@[simp] theorem filterUpdate_emitted_resp (w : Record) (s : State) : (filterUpdate w s .emitted).resp = s.resp := rfl

@[simp] theorem filterUpdate_suppressed_params (w : Record) (s : State) : (filterUpdate w s .suppressed).params = s.params := rfl
@[simp] theorem filterUpdate_suppressed_cfg (w : Record) (s : State) : (filterUpdate w s .suppressed).cfg = s.cfg := rfl
@[simp] theorem filterUpdate_suppressed_buf (w : Record) (s : State) : (filterUpdate w s .suppressed).buf = s.buf := rfl
@[simp] theorem filterUpdate_suppressed_filt (w : Record) (s : State) : (filterUpdate w s .suppressed).filt = s.filt := rfl
@[simp] theorem filterUpdate_suppressed_outq (w : Record) (s : State) : (filterUpdate w s .suppressed).outq = s.outq := rfl
@[simp] theorem filterUpdate_suppressed_diag (w : Record) (s : State) : (filterUpdate w s .suppressed).diag = s.diag := rfl
@[simp] theorem filterUpdate_suppressed_crcAcc (w : Record) (s : State) : (filterUpdate w s .suppressed).crcAcc = s.crcAcc := rfl
@[simp] theorem filterUpdate_suppressed_seen (w : Record) (s : State) : (filterUpdate w s .suppressed).seen = s.seen := rfl
@[simp] theorem filterUpdate_suppressed_cnt (w : Record) (s : State) : (filterUpdate w s .suppressed).cnt = { s.cnt with suppressed := s.cnt.suppressed + 1#32 } := rfl
@[simp] theorem filterUpdate_suppressed_errInfo (w : Record) (s : State) : (filterUpdate w s .suppressed).errInfo = s.errInfo := rfl
@[simp] theorem filterUpdate_suppressed_pending (w : Record) (s : State) : (filterUpdate w s .suppressed).pending = s.pending := rfl
@[simp] theorem filterUpdate_suppressed_resp (w : Record) (s : State) : (filterUpdate w s .suppressed).resp = s.resp := rfl

@[simp] theorem flushBuf_params (s : State) : (flushBuf s).params = s.params := rfl
@[simp] theorem flushBuf_cfg (s : State) : (flushBuf s).cfg = s.cfg := rfl
@[simp] theorem flushBuf_buf (s : State) : (flushBuf s).buf = [] := rfl
@[simp] theorem flushBuf_filt (s : State) : (flushBuf s).filt = s.filt := rfl
@[simp] theorem flushBuf_outq (s : State) : (flushBuf s).outq = s.outq := rfl
@[simp] theorem flushBuf_diag (s : State) : (flushBuf s).diag = s.diag := rfl
@[simp] theorem flushBuf_crcAcc (s : State) : (flushBuf s).crcAcc = s.crcAcc := rfl
@[simp] theorem flushBuf_seen (s : State) : (flushBuf s).seen = s.seen := rfl
@[simp] theorem flushBuf_cnt (s : State) : (flushBuf s).cnt = s.cnt := rfl
@[simp] theorem flushBuf_errInfo (s : State) : (flushBuf s).errInfo = s.errInfo := rfl
@[simp] theorem flushBuf_pending (s : State) : (flushBuf s).pending = s.pending := rfl
@[simp] theorem flushBuf_resp (s : State) : (flushBuf s).resp = s.resp := rfl

@[simp] theorem clearFilter_params (s : State) : (clearFilter s).params = s.params := rfl
@[simp] theorem clearFilter_cfg (s : State) : (clearFilter s).cfg = s.cfg := rfl
@[simp] theorem clearFilter_buf (s : State) : (clearFilter s).buf = s.buf := rfl
@[simp] theorem clearFilter_filt (s : State) : (clearFilter s).filt = none := rfl
@[simp] theorem clearFilter_outq (s : State) : (clearFilter s).outq = s.outq := rfl
@[simp] theorem clearFilter_diag (s : State) : (clearFilter s).diag = s.diag := rfl
@[simp] theorem clearFilter_crcAcc (s : State) : (clearFilter s).crcAcc = s.crcAcc := rfl
@[simp] theorem clearFilter_seen (s : State) : (clearFilter s).seen = s.seen := rfl
@[simp] theorem clearFilter_cnt (s : State) : (clearFilter s).cnt = s.cnt := rfl
@[simp] theorem clearFilter_errInfo (s : State) : (clearFilter s).errInfo = s.errInfo := rfl
@[simp] theorem clearFilter_pending (s : State) : (clearFilter s).pending = s.pending := rfl
@[simp] theorem clearFilter_resp (s : State) : (clearFilter s).resp = s.resp := rfl

@[simp] theorem crcInitPort_params (s : State) : (crcInitPort s).params = s.params := rfl
@[simp] theorem crcInitPort_cfg (s : State) : (crcInitPort s).cfg = s.cfg := rfl
@[simp] theorem crcInitPort_buf (s : State) : (crcInitPort s).buf = s.buf := rfl
@[simp] theorem crcInitPort_filt (s : State) : (crcInitPort s).filt = s.filt := rfl
@[simp] theorem crcInitPort_outq (s : State) : (crcInitPort s).outq = s.outq := rfl
@[simp] theorem crcInitPort_diag (s : State) : (crcInitPort s).diag = s.diag := rfl
@[simp] theorem crcInitPort_crcAcc (s : State) : (crcInitPort s).crcAcc = Config.crcInit := rfl
@[simp] theorem crcInitPort_seen (s : State) : (crcInitPort s).seen = s.seen := rfl
@[simp] theorem crcInitPort_cnt (s : State) : (crcInitPort s).cnt = s.cnt := rfl
@[simp] theorem crcInitPort_errInfo (s : State) : (crcInitPort s).errInfo = s.errInfo := rfl
@[simp] theorem crcInitPort_pending (s : State) : (crcInitPort s).pending = s.pending := rfl
@[simp] theorem crcInitPort_resp (s : State) : (crcInitPort s).resp = s.resp := rfl

@[simp] theorem clearCounters_params (s : State) : (clearCounters s).params = s.params := rfl
@[simp] theorem clearCounters_cfg (s : State) : (clearCounters s).cfg = s.cfg := rfl
@[simp] theorem clearCounters_buf (s : State) : (clearCounters s).buf = s.buf := rfl
@[simp] theorem clearCounters_filt (s : State) : (clearCounters s).filt = s.filt := rfl
@[simp] theorem clearCounters_outq (s : State) : (clearCounters s).outq = s.outq := rfl
@[simp] theorem clearCounters_diag (s : State) : (clearCounters s).diag = s.diag := rfl
@[simp] theorem clearCounters_crcAcc (s : State) : (clearCounters s).crcAcc = s.crcAcc := rfl
@[simp] theorem clearCounters_seen (s : State) : (clearCounters s).seen = s.seen := rfl
@[simp] theorem clearCounters_cnt (s : State) : (clearCounters s).cnt = Counters.zero := rfl
@[simp] theorem clearCounters_errInfo (s : State) : (clearCounters s).errInfo = s.errInfo := rfl
@[simp] theorem clearCounters_pending (s : State) : (clearCounters s).pending = s.pending := rfl
@[simp] theorem clearCounters_resp (s : State) : (clearCounters s).resp = s.resp := rfl

@[simp] theorem flushOut_params (s : State) : (flushOut s).params = s.params := rfl
@[simp] theorem flushOut_cfg (s : State) : (flushOut s).cfg = s.cfg := rfl
@[simp] theorem flushOut_buf (s : State) : (flushOut s).buf = s.buf := rfl
@[simp] theorem flushOut_filt (s : State) : (flushOut s).filt = s.filt := rfl
@[simp] theorem flushOut_outq (s : State) : (flushOut s).outq = [] := rfl
@[simp] theorem flushOut_diag (s : State) : (flushOut s).diag = s.diag := rfl
@[simp] theorem flushOut_crcAcc (s : State) : (flushOut s).crcAcc = s.crcAcc := rfl
@[simp] theorem flushOut_seen (s : State) : (flushOut s).seen = s.seen := rfl
@[simp] theorem flushOut_cnt (s : State) : (flushOut s).cnt = s.cnt := rfl
@[simp] theorem flushOut_errInfo (s : State) : (flushOut s).errInfo = s.errInfo := rfl
@[simp] theorem flushOut_pending (s : State) : (flushOut s).pending = s.pending := rfl
@[simp] theorem flushOut_resp (s : State) : (flushOut s).resp = s.resp := rfl

end Sys2Proof.Machine
end

