-- ==== Sys2Proof/Laws/Bus.lean ====
section
/-! SUPPORT. What the shared operations of the bus can do: an answer, a bus error, the next event. -/

namespace Sys2Proof.Machine

/-- A read changes nothing but the response (spec/20_memory.md R47). -/
@[simp] theorem readAnswer_eq_next (v : Word) (s t : State) : readAnswer v s = .next t ↔ s.answer v false = t := by
  simp [readAnswer]

/-- A write's answer adds nothing but the response to the write's effect (spec/30_encoding.md R54). -/
@[simp] theorem writeAnswer_eq_next (s t : State) : writeAnswer s = .next t ↔ s.answer 0#32 false = t := by
  simp [writeAnswer]

/-- A length below 2^32 is read exactly (spec/30_encoding.md R62). -/
theorem lengthWord_of_lt (n : Nat) (h : n < 2 ^ 32) : lengthWord n = BitVec.ofNat 32 n ∧ (lengthWord n).toNat = n := by
  unfold lengthWord
  rw [if_pos h]
  exact ⟨rfl, by rw [BitVec.toNat_ofNat, Nat.mod_eq_of_lt h]⟩

/-- A bus error changes err_info, seen_bus_error and the response, and nothing else (spec/60_exceptions.md R174). -/
theorem raiseBusError_eq (c : BusCause) (w : Bool) (a : Addr) (s : State) :
    raiseBusError c w a s =
      { s with
        errInfo := errInfoWord c w a, seen := { s.seen with busError := true }, resp := some ⟨0#32, true⟩ } := rfl

/-- The next event is the head of the pending ones. -/
theorem nextEvent_eq_some_iff (s t : State) (e : HostEvent) :
    nextEvent s = some (e, t) ↔ ∃ rest, s.pending = e :: rest ∧ t = { s with pending := rest } := by
  unfold nextEvent
  cases h : s.pending with
  | nil => simp
  | cons e' rest =>
    simp only [Option.some.injEq, Prod.mk.injEq, List.cons.injEq]
    constructor
    · rintro ⟨rfl, rfl⟩
      exact ⟨rest, ⟨rfl, rfl⟩, rfl⟩
    · rintro ⟨rest', ⟨rfl, rfl⟩, rfl⟩
      exact ⟨rfl, rfl⟩

/-- There is no next event exactly when none is pending. -/
@[simp] theorem nextEvent_eq_none_iff (s : State) : nextEvent s = none ↔ s.pending = [] := by
  unfold nextEvent
  cases s.pending <;> simp

/-- A transaction's word is either an instruction's, which is performed, or is answered with the bus error of its rejection. -/
theorem runTransaction_cases (x : BusWord) (s : State) :
    (∃ i, decode x = .ok i ∧ runTransaction x s = exec i s) ∨
      (∃ c, decode x = .error c ∧
        runTransaction x s = .next (raiseBusError c (Transaction.ofWord x).write (Transaction.ofWord x).addr s)) := by
  unfold runTransaction
  cases decode x with
  | ok i => exact .inl ⟨i, rfl, rfl⟩
  | error c => exact .inr ⟨c, rfl, rfl⟩

/-- What a step can do, said once: it idles, performs a hardware reset, or runs a transaction; and only under parameters that
R11 admits. -/
theorem step_eq_next (s t : State) (h : step s = .next t) :
    s.params.wf = true ∧
      ((s.pending = [] ∧ t = s) ∨
        (∃ rest, s.pending = .hardwareReset :: rest ∧ t = hardReset { s with pending := rest }) ∨
        (∃ x rest, s.pending = .transaction x :: rest ∧ runTransaction x { s with pending := rest } = .next t)) := by
  unfold step runNext at h
  split at h
  · rename_i hp
    refine ⟨hp, ?_⟩
    cases hn : nextEvent s with
    | none =>
      rw [hn] at h
      injection h with h
      exact .inl ⟨(nextEvent_eq_none_iff s).1 hn, h.symm⟩
    | some p =>
      obtain ⟨e, u⟩ := p
      rw [hn] at h
      obtain ⟨rest, hr, rfl⟩ := (nextEvent_eq_some_iff s u e).1 hn
      cases e with
      | hardwareReset =>
        injection h with h
        exact .inr (.inl ⟨rest, hr, h.symm⟩)
      | transaction x => exact .inr (.inr ⟨x, rest, hr, h⟩)
  · cases h

/-- The parameters R11 admits, as inequalities. -/
theorem params_wf_iff (p : Params) : p.wf = true ↔ 40 ≤ p.bufCap ∧ 1 ≤ p.outDepth := by
  unfold Params.wf
  rw [Bool.and_eq_true]
  exact and_congr decide_eq_true_iff decide_eq_true_iff

/-- An action of CMD is performed exactly when its bit is 1 (spec/45_control_registers.md R149). -/
@[simp] theorem actionIf_true (act : State → State) (s : State) : actionIf true act s = act s := rfl

@[simp] theorem actionIf_false (act : State → State) (s : State) : actionIf false act s = s := rfl

end Sys2Proof.Machine
end

