-- ==== Sys2Proof/Laws/Crc.lean ====
section
/-! SUPPORT. The CRC folds byte by byte (spec/40_crc_engine.md R72, R73). -/

namespace Sys2Proof.Machine

@[simp] theorem crcFold_nil (acc : Word) : crcFold acc [] = acc := rfl

@[simp] theorem crcFold_cons (acc : Word) (b : Byte) (bs : List Byte) :
    crcFold acc (b :: bs) = crcFold (crcByte acc b) bs := rfl

/-- Folding a sequence is folding its pieces in order. -/
theorem crcFold_append (acc : Word) (bs cs : List Byte) : crcFold acc (bs ++ cs) = crcFold (crcFold acc bs) cs := by
  induction bs generalizing acc with
  | nil => rfl
  | cons b bs ih => exact ih (crcByte acc b)

/-- The CRC of no bytes is the initial accumulator. -/
@[simp] theorem crc32_nil : crc32 [] = Config.crcInit := rfl

/-- A round whose top bit is clear only shifts. -/
theorem crcShift_of_top_clear (acc : Word) (h : acc.getLsbD 31 = false) : crcShift acc = acc <<< 1 := by
  rw [crcShift, h]
  rfl

/-- A round whose top bit is set shifts and adds the polynomial. -/
theorem crcShift_of_top_set (acc : Word) (h : acc.getLsbD 31 = true) :
    crcShift acc = (acc <<< 1) ^^^ Config.crcPoly := by
  rw [crcShift, h]
  rfl

end Sys2Proof.Machine
end

