-- ==== Sys2Proof/Laws/Filter.lean ====
section
/-! SUPPORT. What FILTER decides (spec/43_filter.md R103) and the ordered comparison of spec/00_scope.md R16. -/

namespace Sys2Proof.Machine

/-- With no snapshot the record is emitted (R103). -/
@[simp] theorem filterDecision_none (c : Settings) (w : Record) : filterDecision c none w = .emitted := rfl

/-- With a snapshot the record is emitted exactly when it differs from it (R103). -/
theorem filterDecision_some (c : Settings) (p : Snapshot) (w : Record) :
    filterDecision c (some p) w = if changed c w p then .emitted else .suppressed := rfl

/-- FILTER's update is one of two: queue and snapshot, or a count (R103). -/
theorem filterUpdate_cases (c : Settings) (w : Record) (s : State) :
    (filterDecision c s.filt w = .emitted ∧
        filterUpdate w s (filterDecision c s.filt w) =
          { s with
            outq := s.outq ++ [w], filt := some (snap w), cnt := { s.cnt with emitted := s.cnt.emitted + 1#32 } }) ∨
      (filterDecision c s.filt w = .suppressed ∧
        filterUpdate w s (filterDecision c s.filt w) =
          { s with cnt := { s.cnt with suppressed := s.cnt.suppressed + 1#32 } }) := by
  cases h : filterDecision c s.filt w with
  | emitted => exact .inl ⟨rfl, rfl⟩
  | suppressed => exact .inr ⟨rfl, rfl⟩

/-- Nothing is greater than a NaN, and a NaN is greater than nothing (R16). -/
@[simp] theorem gt64_nan_left (a : F64) : gt64 .nan a = false := rfl

@[simp] theorem gt64_nan_right (a : F64) : gt64 a .nan = false := by cases a <;> rfl

/-- The comparison is strict (R100). -/
theorem gt64_irrefl (a : F64) : gt64 a a = false := by
  cases a with
  | nan => rfl
  | inf n => cases n <;> rfl
  | fin n m => simp [gt64]

/-- The excess bits of a magnitude of 54 bits or more place it between the powers of a 53-bit significand (R16). -/
theorem excessBits_bounds (n : Nat) (h : 2 ^ 53 ≤ n) : 2 ^ (52 + excessBits n) ≤ n ∧ n < 2 ^ (53 + excessBits n) := by
  have hn : n ≠ 0 := by
    rintro rfl
    norm_num at h
  have h3 : 53 ≤ Nat.log2 n := (Nat.le_log2 hn).2 h
  unfold excessBits
  rw [show 52 + (n.log2 + 1 - 53) = n.log2 by omega, show 53 + (n.log2 + 1 - 53) = n.log2 + 1 by omega]
  exact ⟨Nat.log2_self_le hn, Nat.lt_log2_self⟩

/-- A sign and a magnitude as a product. -/
theorem signedUnits_eq (b : Bool) (n : Nat) : signedUnits b n = (if b then -1 else 1) * (n : Int) := by
  cases b <;> simp [signedUnits]

/-- A binary32 pattern whose exponent field is not all ones is the finite value that `units32` says, of 1224 bits or
fewer (R16). -/
theorem f32to64_of_finite (w : Word) (h : w.extractLsb' 23 8 ≠ 0xFF#8) :
    ∃ neg n, f32to64 w = .fin neg n ∧ signedUnits neg n = units32 w ∧ n < 2 ^ 24 * 2 ^ 1200 := by
  have he : (w.extractLsb' 23 8).toNat ≠ 255 := fun e => h (BitVec.eq_of_toNat_eq e)
  have hlt := (w.extractLsb' 23 8).isLt
  have hf := (w.extractLsb' 0 23).isLt
  unfold f32to64 units32
  simp only [he, if_false]
  generalize (w.extractLsb' 23 8).toNat = e at *
  generalize (w.extractLsb' 0 23).toNat = frac at *
  by_cases h0 : e = 0
  · subst h0
    refine ⟨_, _, by simp only [if_true]; rfl, ?_, ?_⟩
    · rw [signedUnits_eq, Nat.shiftLeft_eq, if_pos rfl, show max 0 1 + 924 = 925 from rfl]
    · rw [Nat.shiftLeft_eq]
      exact Nat.mul_lt_mul_of_lt_of_le (by omega) (Nat.pow_le_pow_right (by omega) (by omega)) (by positivity)
  · refine ⟨_, _, by simp only [h0, if_false]; rfl, ?_, ?_⟩
    · rw [signedUnits_eq, Nat.shiftLeft_eq, if_neg h0, show max e 1 + 924 = e - 1 + 925 by omega]
    · rw [Nat.shiftLeft_eq]
      exact Nat.mul_lt_mul_of_lt_of_le (by omega) (Nat.pow_le_pow_right (by omega) (by omega)) (by positivity)

/-- A binary64 pattern whose exponent field is not all ones is the finite value that `units64` says (R16). -/
theorem f64_of_finite (d : Dword) (h : d.extractLsb' 52 11 ≠ 0x7FF#11) :
    ∃ neg n, f64 d = .fin neg n ∧ signedUnits neg n = units64 d := by
  have he : (d.extractLsb' 52 11).toNat ≠ 2047 := fun e => h (BitVec.eq_of_toNat_eq e)
  unfold f64 units64
  simp only [he, if_false]
  generalize (d.extractLsb' 52 11).toNat = e
  generalize (d.extractLsb' 0 52).toNat = frac
  by_cases h0 : e = 0
  · subst h0
    refine ⟨_, _, by simp only [if_true]; rfl, ?_⟩
    rw [signedUnits_eq]
    simp
  · refine ⟨_, _, by simp only [h0, if_false]; rfl, ?_⟩
    rw [signedUnits_eq, Nat.shiftLeft_eq, if_neg h0, show max e 1 - 1 = e - 1 by omega]

end Sys2Proof.Machine
end

