-- ==== Sys2Proof/Laws/FrameDecode.lean ====
section
/-! SUPPORT. What DECODE can answer (spec/42_decoder.md R85), said once. -/

namespace Sys2Proof.Machine

/-- DECODE answers exactly one of four ways, in the order of R95: a short span; a wrong header; with the check enabled, a wrong
CRC; else OK. -/
theorem decodeFrame_cases (span : List Byte) (vc : Bool) :
    (span.length < 40 ∧ decodeFrame span vc = .incomplete) ∨
      (40 ≤ span.length ∧ be32 (span.take 40) 0 ≠ Config.magic ∧
        decodeFrame span vc = .badHeader (recordOf (span.take 40) false false false) 0#32) ∨
      (40 ≤ span.length ∧ be32 (span.take 40) 0 = Config.magic ∧ vc = true ∧
        crc32 ((span.take 40).take 36) ≠ be32 (span.take 40) 36 ∧
        decodeFrame span vc =
          .crcMismatch (recordOf (span.take 40) true false true) (crc32 ((span.take 40).take 36))) ∨
      (40 ≤ span.length ∧ be32 (span.take 40) 0 = Config.magic ∧ vc = true ∧
        crc32 ((span.take 40).take 36) = be32 (span.take 40) 36 ∧
        decodeFrame span vc =
          .ok (recordOf (span.take 40) true true true) (crc32 ((span.take 40).take 36))) ∨
      (40 ≤ span.length ∧ be32 (span.take 40) 0 = Config.magic ∧ vc = false ∧
        decodeFrame span vc = .ok (recordOf (span.take 40) false false true) 0#32) := by
  unfold decodeFrame Config.frameLen Config.crcSpan
  by_cases hl : span.length < 40
  · exact .inl ⟨hl, by simp [hl]⟩
  · have h40 : 40 ≤ span.length := by omega
    by_cases hh : be32 (span.take 40) 0 = Config.magic
    · cases vc with
      | false => exact .inr (.inr (.inr (.inr ⟨h40, hh, rfl, by simp [hl, hh]⟩)))
      | true =>
        by_cases hc : crc32 ((span.take 40).take 36) = be32 (span.take 40) 36
        · exact .inr (.inr (.inr (.inl ⟨h40, hh, rfl, hc, by simp only [hl, hh, hc]; simp⟩)))
        · have hc' : (crc32 ((span.take 40).take 36) == be32 (span.take 40) 36) = false := by simpa using hc
          exact .inr (.inr (.inl ⟨h40, hh, rfl, hc, by simp [hl, hh, hc']⟩))
    · have hh' : (be32 (span.take 40) 0 == Config.magic) = false := by simpa using hh
      exact .inr (.inl ⟨h40, hh, by simp only [hl, hh']; simp⟩)

/-- A span of 40 bytes or more is never INCOMPLETE (R86, R96). -/
theorem decodeFrame_ne_incomplete (span : List Byte) (vc : Bool) (h : 40 ≤ span.length) :
    decodeFrame span vc ≠ .incomplete := by
  rcases decodeFrame_cases span vc with ⟨hl, _⟩ | ⟨_, _, e⟩ | ⟨_, _, _, _, e⟩ | ⟨_, _, _, _, e⟩ | ⟨_, _, _, e⟩
  · omega
  all_goals rw [e]; simp

/-- Every bit of four bytes joined, the first in bits 31:24. -/
theorem four_bytes_getLsbD (a b c d : Byte) (i : Nat) :
    (a ++ b ++ c ++ d : BitVec (8 + 8 + 8 + 8)).getLsbD i =
      if i < 8 then d.getLsbD i else if i < 16 then c.getLsbD (i - 8)
      else if i < 24 then b.getLsbD (i - 16) else a.getLsbD (i - 24) := by
  have h1 := BitVec.getLsbD_append (x := a ++ b ++ c) (y := d) (i := i)
  have h2 := BitVec.getLsbD_append (x := a ++ b) (y := c) (i := i - 8)
  have h3 := BitVec.getLsbD_append (x := a) (y := b) (i := i - 8 - 8)
  rw [h2, h3] at h1
  refine h1.trans ?_
  simp only [show i - 8 - 8 = i - 16 by omega, show i - 16 - 8 = i - 24 by omega]
  by_cases a1 : i < 8
  · simp [a1]
  by_cases a2 : i < 16
  · simp [a1, a2, show i - 8 < 8 by omega]
  by_cases a3 : i < 24
  · simp [a1, a2, a3, show ¬ i - 8 < 8 by omega, show i - 16 < 8 by omega]
  · simp [a1, a2, a3, show ¬ i - 8 < 8 by omega, show ¬ i - 16 < 8 by omega]

/-- A big-endian word holds its bytes: two such words are equal exactly when their bytes are. -/
theorem four_bytes_inj (a b c d a' b' c' d' : Byte)
    (h : (a ++ b ++ c ++ d : BitVec (8 + 8 + 8 + 8)) = (a' ++ b' ++ c' ++ d' : BitVec (8 + 8 + 8 + 8))) :
    a = a' ∧ b = b' ∧ c = c' ∧ d = d' := by
  have g : ∀ i, (a ++ b ++ c ++ d : BitVec (8 + 8 + 8 + 8)).getLsbD i =
      (a' ++ b' ++ c' ++ d' : BitVec (8 + 8 + 8 + 8)).getLsbD i := by rw [h]; simp
  simp only [four_bytes_getLsbD] at g
  refine ⟨?_, ?_, ?_, ?_⟩ <;> apply BitVec.eq_of_getLsbD_eq <;> intro i hi
  · simpa [show ¬ i + 24 < 8 by omega, show ¬ i + 24 < 16 by omega] using g (i + 24)
  · simpa [show ¬ i + 16 < 8 by omega, show i + 16 < 24 by omega] using g (i + 16)
  · simpa [show ¬ i + 8 < 8 by omega, show i + 8 < 16 by omega] using g (i + 8)
  · simpa [hi] using g i

/-- The header word is the magic exactly when the first four bytes are the magic's (R40, R78). -/
theorem be32_zero_eq_magic_iff (f : List Byte) (h : 4 ≤ f.length) :
    be32 f 0 = Config.magic ↔ f.take 4 = Config.magicBytes := by
  match f, h with
  | a :: b :: c :: d :: r, _ =>
    have e : Config.magic = (0xFE#8 ++ 0x81#8 ++ 0xFF#8 ++ 0x56#8 : BitVec (8 + 8 + 8 + 8)) := by decide
    have e2 : be32 (a :: b :: c :: d :: r) 0 = (a ++ b ++ c ++ d : BitVec (8 + 8 + 8 + 8)) := rfl
    rw [e, e2]
    constructor
    · intro h
      obtain ⟨rfl, rfl, rfl, rfl⟩ := four_bytes_inj _ _ _ _ _ _ _ _ h
      rfl
    · intro h
      simp [Config.magicBytes] at h
      obtain ⟨rfl, rfl, rfl, rfl⟩ := h
      rfl

/-- The top byte of a big-endian word is its first byte. -/
theorem be32_top_byte (f : List Byte) (i : Nat) : (be32 f i).extractLsb' 24 8 = byteAt f i := by
  apply BitVec.eq_of_getLsbD_eq
  intro n hn
  rw [BitVec.getLsbD_extractLsb']
  unfold be32
  erw [four_bytes_getLsbD]
  simp [hn, show ¬ 24 + n < 8 by omega, show ¬ 24 + n < 16 by omega]

/-- A byte of a prefix is the byte of the sequence. -/
theorem byteAt_take (f : List Byte) (n i : Nat) (h : i < n) : byteAt (f.take n) i = byteAt f i := by
  simp only [byteAt, List.getD_eq_getElem?_getD, List.getElem?_take, h, if_true]

/-- A big-endian word inside a prefix is that of the sequence. -/
theorem be32_take (f : List Byte) (n i : Nat) (h : i + 3 < n) : be32 (f.take n) i = be32 f i := by
  simp only [be32, byteAt_take f n i (by omega), byteAt_take f n (i + 1) (by omega),
    byteAt_take f n (i + 2) (by omega), byteAt_take f n (i + 3) (by omega)]

end Sys2Proof.Machine
end

