-- ==== Sys2Proof/Laws/PerInstr.lean ====
section
/-! SUPPORT. The per-instruction family EncodesItsRow: the word of an instruction names a row of the opcode table
(spec/30_encoding.md R55, R66), one lemma a constructor of Instr. -/

namespace Sys2Proof.Laws.EncodesItsRow

/-- The word of the instruction passes the four checks of R55. -/
def Statement (i : Instr) : Prop :=
  (Transaction.ofWord (encode i)).wellFormed = true

/-- The statement, said of the W and ADDR of the row: WDATA plays no part (R65). -/
theorem of_row (i : Instr) (w : Bool) (a : Addr) (hw : (encodeTransaction i).write = w)
    (ha : (encodeTransaction i).addr = a) (h : Transaction.wellFormed ⟨w, a, 0#32⟩ = true) : Statement i := by
  rw [Statement, encode, ofWord_toWord, Transaction.wellFormed, hw, ha]
  exact h

theorem rdId : Statement .rdId :=
  of_row _ false 0x00#8 rfl rfl (by decide)
theorem rdCtrl : Statement .rdCtrl :=
  of_row _ false 0x04#8 rfl rfl (by decide)
theorem wrCtrl (v : Word) : Statement (.wrCtrl v) :=
  of_row _ true 0x04#8 rfl rfl (by decide)
theorem wrCmd (v : Word) : Statement (.wrCmd v) :=
  of_row _ true 0x08#8 rfl rfl (by decide)
theorem rdStatus : Statement .rdStatus :=
  of_row _ false 0x0C#8 rfl rfl (by decide)
theorem wrStatus (v : Word) : Statement (.wrStatus v) :=
  of_row _ true 0x0C#8 rfl rfl (by decide)
theorem wrPush (v : Word) : Statement (.wrPush v) :=
  of_row _ true 0x10#8 rfl rfl (by decide)
theorem rdBufLen : Statement .rdBufLen :=
  of_row _ false 0x14#8 rfl rfl (by decide)
theorem rdThrGyroLo : Statement .rdThrGyroLo :=
  of_row _ false 0x18#8 rfl rfl (by decide)
theorem wrThrGyroLo (v : Word) : Statement (.wrThrGyroLo v) :=
  of_row _ true 0x18#8 rfl rfl (by decide)
theorem rdThrGyroHi : Statement .rdThrGyroHi :=
  of_row _ false 0x1C#8 rfl rfl (by decide)
theorem wrThrGyroHi (v : Word) : Statement (.wrThrGyroHi v) :=
  of_row _ true 0x1C#8 rfl rfl (by decide)
theorem rdThrAccelLo : Statement .rdThrAccelLo :=
  of_row _ false 0x20#8 rfl rfl (by decide)
theorem wrThrAccelLo (v : Word) : Statement (.wrThrAccelLo v) :=
  of_row _ true 0x20#8 rfl rfl (by decide)
theorem rdThrAccelHi : Statement .rdThrAccelHi :=
  of_row _ false 0x24#8 rfl rfl (by decide)
theorem wrThrAccelHi (v : Word) : Statement (.wrThrAccelHi v) :=
  of_row _ true 0x24#8 rfl rfl (by decide)
theorem rdThrTempLo : Statement .rdThrTempLo :=
  of_row _ false 0x28#8 rfl rfl (by decide)
theorem wrThrTempLo (v : Word) : Statement (.wrThrTempLo v) :=
  of_row _ true 0x28#8 rfl rfl (by decide)
theorem rdThrTempHi : Statement .rdThrTempHi :=
  of_row _ false 0x2C#8 rfl rfl (by decide)
theorem wrThrTempHi (v : Word) : Statement (.wrThrTempHi v) :=
  of_row _ true 0x2C#8 rfl rfl (by decide)
theorem wrCrcData (v : Word) : Statement (.wrCrcData v) :=
  of_row _ true 0x30#8 rfl rfl (by decide)
theorem rdCrcValue : Statement .rdCrcValue :=
  of_row _ false 0x34#8 rfl rfl (by decide)
theorem rdErrInfo : Statement .rdErrInfo :=
  of_row _ false 0x38#8 rfl rfl (by decide)
theorem rdCntFramesOk : Statement .rdCntFramesOk :=
  of_row _ false 0x40#8 rfl rfl (by decide)
theorem rdCntBadHeader : Statement .rdCntBadHeader :=
  of_row _ false 0x44#8 rfl rfl (by decide)
theorem rdCntCrcMismatch : Statement .rdCntCrcMismatch :=
  of_row _ false 0x48#8 rfl rfl (by decide)
theorem rdCntEmitted : Statement .rdCntEmitted :=
  of_row _ false 0x4C#8 rfl rfl (by decide)
theorem rdCntSuppressed : Statement .rdCntSuppressed :=
  of_row _ false 0x50#8 rfl rfl (by decide)
theorem rdCntDiscarded : Statement .rdCntDiscarded :=
  of_row _ false 0x54#8 rfl rfl (by decide)
theorem rdCntOverflow : Statement .rdCntOverflow :=
  of_row _ false 0x58#8 rfl rfl (by decide)
theorem rdOutCount : Statement .rdOutCount :=
  of_row _ false 0x5C#8 rfl rfl (by decide)
theorem wrOutPop (v : Word) : Statement (.wrOutPop v) :=
  of_row _ true 0x60#8 rfl rfl (by decide)
theorem rdOutW0 : Statement .rdOutW0 :=
  of_row _ false 0x80#8 rfl rfl (by decide)
theorem rdOutW1 : Statement .rdOutW1 :=
  of_row _ false 0x84#8 rfl rfl (by decide)
theorem rdOutW2 : Statement .rdOutW2 :=
  of_row _ false 0x88#8 rfl rfl (by decide)
theorem rdOutW3 : Statement .rdOutW3 :=
  of_row _ false 0x8C#8 rfl rfl (by decide)
theorem rdOutW4 : Statement .rdOutW4 :=
  of_row _ false 0x90#8 rfl rfl (by decide)
theorem rdOutW5 : Statement .rdOutW5 :=
  of_row _ false 0x94#8 rfl rfl (by decide)
theorem rdOutW6 : Statement .rdOutW6 :=
  of_row _ false 0x98#8 rfl rfl (by decide)
theorem rdOutW7 : Statement .rdOutW7 :=
  of_row _ false 0x9C#8 rfl rfl (by decide)
theorem rdOutW8 : Statement .rdOutW8 :=
  of_row _ false 0xA0#8 rfl rfl (by decide)
theorem rdOutW9 : Statement .rdOutW9 :=
  of_row _ false 0xA4#8 rfl rfl (by decide)
theorem rdOutW10 : Statement .rdOutW10 :=
  of_row _ false 0xA8#8 rfl rfl (by decide)
theorem rdDiagW0 : Statement .rdDiagW0 :=
  of_row _ false 0xC0#8 rfl rfl (by decide)
theorem rdDiagW1 : Statement .rdDiagW1 :=
  of_row _ false 0xC4#8 rfl rfl (by decide)
theorem rdDiagW2 : Statement .rdDiagW2 :=
  of_row _ false 0xC8#8 rfl rfl (by decide)
theorem rdDiagW3 : Statement .rdDiagW3 :=
  of_row _ false 0xCC#8 rfl rfl (by decide)
theorem rdDiagW4 : Statement .rdDiagW4 :=
  of_row _ false 0xD0#8 rfl rfl (by decide)
theorem rdDiagW5 : Statement .rdDiagW5 :=
  of_row _ false 0xD4#8 rfl rfl (by decide)
theorem rdDiagW6 : Statement .rdDiagW6 :=
  of_row _ false 0xD8#8 rfl rfl (by decide)
theorem rdDiagW7 : Statement .rdDiagW7 :=
  of_row _ false 0xDC#8 rfl rfl (by decide)
theorem rdDiagW8 : Statement .rdDiagW8 :=
  of_row _ false 0xE0#8 rfl rfl (by decide)
theorem rdDiagW9 : Statement .rdDiagW9 :=
  of_row _ false 0xE4#8 rfl rfl (by decide)
theorem rdDiagW10 : Statement .rdDiagW10 :=
  of_row _ false 0xE8#8 rfl rfl (by decide)
theorem rdDiagCode : Statement .rdDiagCode :=
  of_row _ false 0xEC#8 rfl rfl (by decide)
theorem rdDiagCrcCalc : Statement .rdDiagCrcCalc :=
  of_row _ false 0xF0#8 rfl rfl (by decide)

end Sys2Proof.Laws.EncodesItsRow
end

