-- ==== Sys2Proof/Laws/Sync.lean ====
section
/-! SUPPORT. The search for the magic and the discards (spec/41_synchronizer.md). -/

namespace Sys2Proof.Machine

/-- The magic starts a sequence exactly when its first four bytes are the magic's. -/
theorem startsMagic_iff (b : List Byte) : startsMagic b = true ↔ b.take 4 = Config.magicBytes := by
  unfold Config.magicBytes
  match b with
  | [] => simp [startsMagic]
  | [a] => simp [startsMagic]
  | [a, c] => simp [startsMagic]
  | [a, c, d] => simp [startsMagic]
  | a :: c :: d :: e :: r => simp [startsMagic, and_assoc]

/-- A sequence that starts with the magic holds its four bytes. -/
theorem four_le_of_startsMagic (b : List Byte) (h : startsMagic b = true) : 4 ≤ b.length := by
  have := congrArg List.length ((startsMagic_iff b).1 h)
  simp [Config.magicBytes] at this
  omega

@[simp] theorem findMagic_nil : findMagic [] = none := rfl

/-- The search, one byte at a time. -/
theorem findMagic_cons (a : Byte) (b : List Byte) :
    findMagic (a :: b) = if startsMagic (a :: b) then some 0 else (findMagic b).map (· + 1) := rfl

/-- A sequence in which the magic is found at index 0 starts with it, and the other way round. -/
theorem findMagic_eq_zero_iff (b : List Byte) : findMagic b = some 0 ↔ startsMagic b = true := by
  cases b with
  | nil => simp [startsMagic]
  | cons a b =>
    rw [findMagic_cons]
    by_cases h : startsMagic (a :: b) = true
    · simp [h]
    · simp [h]

/-- Where the magic is found, what follows starts with it. -/
theorem startsMagic_drop_of_findMagic (b : List Byte) (k : Nat) (h : findMagic b = some k) :
    startsMagic (b.drop k) = true := by
  induction b generalizing k with
  | nil => simp at h
  | cons a b ih =>
    rw [findMagic_cons] at h
    by_cases hs : startsMagic (a :: b) = true
    · simp only [hs, if_true, Option.some.injEq] at h
      subst h
      simpa using hs
    · simp only [hs, Bool.false_eq_true, if_false, Option.map_eq_some_iff] at h
      obtain ⟨j, hj, rfl⟩ := h
      simpa using ih j hj

/-- After the discard of R80 the magic is at index 0. -/
theorem findMagic_drop (b : List Byte) (k : Nat) (h : findMagic b = some k) : findMagic (b.drop k) = some 0 :=
  (findMagic_eq_zero_iff _).2 (startsMagic_drop_of_findMagic b k h)

/-- The magic is found with its four bytes inside the sequence. -/
theorem findMagic_add_four_le (b : List Byte) (k : Nat) (h : findMagic b = some k) : k + 4 ≤ b.length := by
  have := four_le_of_startsMagic _ (startsMagic_drop_of_findMagic b k h)
  rw [List.length_drop] at this
  omega

/-- A sequence without the magic has no suffix that starts with it. -/
theorem findMagic_drop_of_none (b : List Byte) (n : Nat) (h : findMagic b = none) : findMagic (b.drop n) = none := by
  induction n generalizing b with
  | zero => simpa using h
  | succ n ih =>
    cases b with
    | nil => simp
    | cons a b =>
      rw [findMagic_cons] at h
      by_cases hs : startsMagic (a :: b) = true
      · simp [hs] at h
      · simp only [hs, Bool.false_eq_true, if_false, Option.map_eq_none_iff] at h
        simpa using ih b h

/-- What R81 leaves is a suffix of at most three bytes. -/
theorem keepTail_buf_length (s : State) : (keepTail s).buf.length = min s.buf.length 3 := by
  simp only [keepTail, discardBytes_buf, List.length_drop, Config.tailKeep]
  omega

/-- What R81 leaves holds no magic. -/
theorem findMagic_keepTail (s : State) (h : findMagic s.buf = none) : findMagic (keepTail s).buf = none :=
  findMagic_drop_of_none _ _ h

/-- The overflow rule changes nothing unless the buffer is full (R83). -/
theorem dropOldestIfFull_of_not_full (s : State) (h : s.buf.length ≠ s.params.bufCap) : dropOldestIfFull s = s := by
  simp [dropOldestIfFull, h]

/-- The overflow rule on a full buffer (R83). -/
theorem dropOldestIfFull_of_full (s : State) (h : s.buf.length = s.params.bufCap) :
    dropOldestIfFull s =
      { s with
        buf := s.buf.drop 1
        cnt := { s.cnt with discarded := s.cnt.discarded + 1#32, overflow := s.cnt.overflow + 1#32 }
        seen := { s.seen with overflow := true } } := by
  simp [dropOldestIfFull, h, discardBytes]

end Sys2Proof.Machine
end

