-- ==== Sys2Proof/Laws/Pipeline.lean ====
section
/-! SUPPORT. What a decode attempt, a pass and a whole PROCESS can do (spec/44_pipeline_and_output.md R109), and that the bound
on the number of passes is never met. -/

namespace Sys2Proof.Machine

/-- A frame handed to the filter leaves `buf` without its 40 bytes (R110). -/
@[simp] theorem passToFilter_buf (v : Word) (w : Record) (s : State) : (passToFilter v w s).buf = s.buf.drop 40 := by
  unfold passToFilter
  cases filterDecision s.cfg s.filt w <;> rfl

/-- A frame handed to the filter, its decision made (R103, R109). -/
theorem passToFilter_cases (v : Word) (w : Record) (s : State) :
    (filterDecision s.cfg s.filt w = .emitted ∧
        passToFilter v w s =
          { s with
            buf := s.buf.drop 40, outq := s.outq ++ [w], filt := some (snap w)
            cnt := { s.cnt with emitted := s.cnt.emitted + 1#32 }
            diag := { s.diag with code := v ||| 0x100#32 } }) ∨
      (filterDecision s.cfg s.filt w = .suppressed ∧
        passToFilter v w s =
          { s with
            buf := s.buf.drop 40
            cnt := { s.cnt with suppressed := s.cnt.suppressed + 1#32 }
            diag := { s.diag with code := v ||| 0x200#32 } }) := by
  unfold passToFilter
  cases h : filterDecision s.cfg s.filt w with
  | emitted => exact .inl ⟨rfl, rfl⟩
  | suppressed => exact .inr ⟨rfl, rfl⟩

/-- A decode attempt on 40 bytes or more shortens the buffer: by 40 bytes where the frame is consumed, by one where it is
resynchronized (R110, R111). -/
theorem decodeAttempt_buf (s : State) (h : 40 ≤ s.buf.length) :
    (decodeAttempt s).buf = s.buf.drop 40 ∨ (decodeAttempt s).buf = s.buf.drop 1 := by
  have hl : 40 ≤ (s.buf.take 40).length := by rw [List.length_take]; omega
  have hn := decodeFrame_ne_incomplete (s.buf.take 40) s.cfg.validateCrc hl
  unfold decodeAttempt Config.frameLen
  cases hd : decodeFrame (s.buf.take 40) s.cfg.validateCrc with
  | incomplete => exact absurd hd hn
  | ok w crc => exact .inl (by simp [onOk])
  | badHeader w crc => exact .inr (by simp [onBadHeader])
  | crcMismatch w crc =>
    by_cases ha : s.cfg.acceptBadCrc = true
    · exact .inl (by simp [onCrcMismatch, ha])
    · exact .inr (by simp [onCrcMismatch, ha])

/-- What one pass can do: trim, wait, or attempt a decode (R109). -/
theorem onePass_cases (s : State) :
    (findMagic s.buf = none ∧ onePass s = .stop (keepTail s)) ∨
      (∃ k, findMagic s.buf = some k ∧ s.buf.length - k < 40 ∧ onePass s = .stop (discardBytes k s)) ∨
      (∃ k, findMagic s.buf = some k ∧ 40 ≤ s.buf.length - k ∧ onePass s = .again (decodeAttempt (discardBytes k s))) := by
  unfold onePass Config.frameLen
  cases h : findMagic s.buf with
  | none => exact .inl ⟨rfl, rfl⟩
  | some k =>
    by_cases hl : s.buf.length - k < 40
    · exact .inr (.inl ⟨k, rfl, hl, by simp [hl]⟩)
    · exact .inr (.inr ⟨k, rfl, by omega, by simp [hl]⟩)

/-- A pass that goes on has removed at least one byte (R109). -/
theorem onePass_again_shortens (s t : State) (h : onePass s = .again t) : t.buf.length < s.buf.length := by
  rcases onePass_cases s with ⟨_, e⟩ | ⟨k, _, _, e⟩ | ⟨k, _, hl, e⟩
  · rw [e] at h; cases h
  · rw [e] at h; cases h
  · rw [e] at h
    injection h with h
    subst h
    have hb : 40 ≤ (discardBytes k s).buf.length := by simpa using hl
    rcases decodeAttempt_buf (discardBytes k s) hb with hd | hd <;> rw [hd] <;> simp <;> omega

/-- The bound on the passes is never met: any bound above the buffer's length gives the same state. -/
theorem passes_eq_of_enough (n m : Nat) (s : State) (hn : s.buf.length < n) (hm : s.buf.length < m) :
    passes n s = passes m s := by
  induction n generalizing m s with
  | zero => omega
  | succ n ih =>
    obtain ⟨m, rfl⟩ : ∃ j, m = j + 1 := ⟨m - 1, by omega⟩
    unfold passes
    cases h : onePass s with
    | stop t => rfl
    | again t =>
      have := onePass_again_shortens s t h
      exact ih m t (by omega) (by omega)

/-- PROCESS stops at once where its first pass exits. -/
theorem runPipeline_of_stop (s t : State) (h : onePass s = .stop t) : runPipeline s = t := by
  simp [runPipeline, passes, h]

/-- PROCESS goes on from where its first pass ends. -/
theorem runPipeline_of_again (s t : State) (h : onePass s = .again t) : runPipeline s = runPipeline t := by
  have hs := onePass_again_shortens s t h
  have : runPipeline s = passes s.buf.length t := by simp [runPipeline, passes, h]
  rw [this]
  exact passes_eq_of_enough _ _ t hs (by omega)

/-- To show that a relation holds between a state and what PROCESS makes of it: it is reflexive and transitive in the sense
below, and every pass keeps it. -/
theorem runPipeline_induction (r : State → State → Prop)
    (stop : ∀ s t, onePass s = .stop t → r s t)
    (again : ∀ s t u, onePass s = .again t → r t u → r s u) (s : State) : r s (runPipeline s) := by
  have key : ∀ n s, s.buf.length < n → r s (passes n s) := by
    intro n
    induction n with
    | zero => intro s hs; omega
    | succ n ih =>
      intro s hs
      unfold passes
      cases h : onePass s with
      | stop t => exact stop s t h
      | again t =>
        have := onePass_again_shortens s t h
        exact again s t _ h (ih t (by omega))
  exact key _ s (by omega)

/-- What the synchronizer, the decoder and the filter never write: the parameters, the configuration, the CRC port, the error
record with its sticky bit, and the model's own fields (spec/60_exceptions.md R181). -/
structure PortsKept (s t : State) : Prop where
  params : t.params = s.params
  cfg : t.cfg = s.cfg
  crcAcc : t.crcAcc = s.crcAcc
  errInfo : t.errInfo = s.errInfo
  busError : t.seen.busError = s.seen.busError
  pending : t.pending = s.pending
  resp : t.resp = s.resp

theorem PortsKept.refl (s : State) : PortsKept s s := ⟨rfl, rfl, rfl, rfl, rfl, rfl, rfl⟩

theorem PortsKept.trans {s t u : State} (h : PortsKept s t) (g : PortsKept t u) : PortsKept s u :=
  ⟨g.1.trans h.1, g.2.trans h.2, g.3.trans h.3, g.4.trans h.4, g.5.trans h.5, g.6.trans h.6, g.7.trans h.7⟩

theorem portsKept_discardBytes (k : Nat) (s : State) : PortsKept s (discardBytes k s) :=
  ⟨rfl, rfl, rfl, rfl, rfl, rfl, rfl⟩

theorem portsKept_passToFilter (v : Word) (w : Record) (s : State) : PortsKept s (passToFilter v w s) := by
  rcases passToFilter_cases v w s with ⟨_, e⟩ | ⟨_, e⟩ <;> rw [e] <;> exact ⟨rfl, rfl, rfl, rfl, rfl, rfl, rfl⟩

theorem portsKept_decodeAttempt (s : State) : PortsKept s (decodeAttempt s) := by
  unfold decodeAttempt
  cases decodeFrame (s.buf.take Config.frameLen) s.cfg.validateCrc with
  | incomplete => exact .refl s
  | ok w c =>
    refine PortsKept.trans ?_ (portsKept_passToFilter 1#32 w _)
    exact ⟨rfl, rfl, rfl, rfl, rfl, rfl, rfl⟩
  | badHeader w c => exact ⟨rfl, rfl, rfl, rfl, rfl, rfl, rfl⟩
  | crcMismatch w c =>
    simp only [onCrcMismatch]
    split
    · refine PortsKept.trans ?_ (portsKept_passToFilter 4#32 w _)
      exact ⟨rfl, rfl, rfl, rfl, rfl, rfl, rfl⟩
    · exact ⟨rfl, rfl, rfl, rfl, rfl, rfl, rfl⟩

/-- PROCESS writes none of them. -/
theorem portsKept_runPipeline (s : State) : PortsKept s (runPipeline s) := by
  apply runPipeline_induction PortsKept
  · intro s t h
    rcases onePass_cases s with ⟨_, e⟩ | ⟨k, _, _, e⟩ | ⟨k, _, _, e⟩ <;> rw [e] at h
    · injection h with h; subst h; exact portsKept_discardBytes _ _
    · injection h with h; subst h; exact portsKept_discardBytes _ _
    · cases h
  · intro s t u h g
    rcases onePass_cases s with ⟨_, e⟩ | ⟨k, _, _, e⟩ | ⟨k, _, _, e⟩ <;> rw [e] at h
    · cases h
    · cases h
    · injection h with h
      subst h
      exact ((portsKept_discardBytes k s).trans (portsKept_decodeAttempt _)).trans g

/-- On fewer than 40 bytes PROCESS only discards, and what it leaves is one of the two halves of R114. -/
theorem runPipeline_of_short (s : State) (h : s.buf.length < 40) :
    ∃ k, runPipeline s = discardBytes k s ∧
      ((findMagic (s.buf.drop k) = none ∧ (s.buf.drop k).length ≤ 3) ∨
        (findMagic (s.buf.drop k) = some 0 ∧ 4 ≤ (s.buf.drop k).length ∧ (s.buf.drop k).length ≤ 39)) := by
  rcases onePass_cases s with ⟨g, e⟩ | ⟨k, g, g', e⟩ | ⟨k, g, g', e⟩
  · refine ⟨_, runPipeline_of_stop _ _ e, .inl ⟨findMagic_drop_of_none _ _ g, ?_⟩⟩
    simp [Config.tailKeep]
    omega
  · refine ⟨_, runPipeline_of_stop _ _ e, .inr ⟨findMagic_drop _ _ g, ?_, ?_⟩⟩
    · have := findMagic_add_four_le _ _ g
      simp
      omega
    · simp
      omega
  · omega

end Sys2Proof.Machine
end

