-- ==== Sys2Proof/Tests/Slice0.lean ====
section
/-! SUPPORT. The author's own tests. The words are written out from the patterns of spec/opcode_table.json (W, then ADDR, then
WDATA); the expected values of the other tests are those of spec/95_test_vectors.md, section named at each. The last part shows,
for every statement with hypotheses, values that meet them. -/

open Sys2Proof Sys2Proof.Machine

namespace Sys2Proof.Tests

-- One theorem after the other: evaluations that wait for one another in threads of their own cost memory for nothing.
set_option Elab.async false

/-! ### WellFormed smoke: an ill-formed term for each check, refused -/

theorem test_wf_refuses_small_buffer : Params.wf ⟨39, 4⟩ = false := by decide
theorem test_wf_refuses_no_queue : Params.wf ⟨40, 0⟩ = false := by decide
theorem test_wf_admits_least_parameters : Params.wf ⟨40, 1⟩ = true := by decide
theorem test_wf_refuses_misaligned : Transaction.wellFormed ⟨false, 0x02#8, 0#32⟩ = false := by decide
theorem test_wf_refuses_unmapped : Transaction.wellFormed ⟨false, 0x3C#8, 0#32⟩ = false := by decide
theorem test_wf_refuses_write_of_ro : Transaction.wellFormed ⟨true, 0x00#8, 0#32⟩ = false := by decide
theorem test_wf_refuses_read_of_wo : Transaction.wellFormed ⟨false, 0x08#8, 0#32⟩ = false := by decide
theorem test_wf_admits_a_push : Transaction.wellFormed ⟨true, 0x10#8, 0xFFFFFFFF#32⟩ = true := by decide

/-! ### Decoding: a word of every row. A read's word carries ones or zeros in the WDATA that is ignored. -/

theorem test_decode_rdId : decode 0x00000000000#41 = .ok .rdId := by decide
theorem test_decode_rdCtrl : decode 0x004FFFFFFFF#41 = .ok .rdCtrl := by decide
theorem test_decode_wrCtrl : decode 0x10480000001#41 = .ok (.wrCtrl 0x80000001#32) := by decide
theorem test_decode_wrCmd : decode 0x108DEADBEEF#41 = .ok (.wrCmd 0xDEADBEEF#32) := by decide
theorem test_decode_rdStatus : decode 0x00CFFFFFFFF#41 = .ok .rdStatus := by decide
theorem test_decode_wrStatus : decode 0x10CFFFFFFFF#41 = .ok (.wrStatus 0xFFFFFFFF#32) := by decide
theorem test_decode_wrPush : decode 0x11000000000#41 = .ok (.wrPush 0x00000000#32) := by decide
theorem test_decode_rdBufLen : decode 0x014FFFFFFFF#41 = .ok .rdBufLen := by decide
theorem test_decode_rdThrGyroLo : decode 0x018A5A5A5A5#41 = .ok .rdThrGyroLo := by decide
theorem test_decode_wrThrGyroLo : decode 0x11880000001#41 = .ok (.wrThrGyroLo 0x80000001#32) := by decide
theorem test_decode_rdThrGyroHi : decode 0x01CFFFFFFFF#41 = .ok .rdThrGyroHi := by decide
theorem test_decode_wrThrGyroHi : decode 0x11C12345678#41 = .ok (.wrThrGyroHi 0x12345678#32) := by decide
theorem test_decode_rdThrAccelLo : decode 0x02000000000#41 = .ok .rdThrAccelLo := by decide
theorem test_decode_wrThrAccelLo : decode 0x12000000000#41 = .ok (.wrThrAccelLo 0x00000000#32) := by decide
theorem test_decode_rdThrAccelHi : decode 0x024A5A5A5A5#41 = .ok .rdThrAccelHi := by decide
theorem test_decode_wrThrAccelHi : decode 0x1240000003F#41 = .ok (.wrThrAccelHi 0x0000003F#32) := by decide
theorem test_decode_rdThrTempLo : decode 0x028FFFFFFFF#41 = .ok .rdThrTempLo := by decide
theorem test_decode_wrThrTempLo : decode 0x128DEADBEEF#41 = .ok (.wrThrTempLo 0xDEADBEEF#32) := by decide
theorem test_decode_rdThrTempHi : decode 0x02C00000000#41 = .ok .rdThrTempHi := by decide
theorem test_decode_wrThrTempHi : decode 0x12CFFFFFFFF#41 = .ok (.wrThrTempHi 0xFFFFFFFF#32) := by decide
theorem test_decode_wrCrcData : decode 0x13000000000#41 = .ok (.wrCrcData 0x00000000#32) := by decide
theorem test_decode_rdCrcValue : decode 0x03400000000#41 = .ok .rdCrcValue := by decide
theorem test_decode_rdErrInfo : decode 0x038FFFFFFFF#41 = .ok .rdErrInfo := by decide
theorem test_decode_rdCntFramesOk : decode 0x040A5A5A5A5#41 = .ok .rdCntFramesOk := by decide
theorem test_decode_rdCntBadHeader : decode 0x04400000000#41 = .ok .rdCntBadHeader := by decide
theorem test_decode_rdCntCrcMismatch : decode 0x048FFFFFFFF#41 = .ok .rdCntCrcMismatch := by decide
theorem test_decode_rdCntEmitted : decode 0x04CA5A5A5A5#41 = .ok .rdCntEmitted := by decide
theorem test_decode_rdCntSuppressed : decode 0x05000000000#41 = .ok .rdCntSuppressed := by decide
theorem test_decode_rdCntDiscarded : decode 0x054FFFFFFFF#41 = .ok .rdCntDiscarded := by decide
theorem test_decode_rdCntOverflow : decode 0x058A5A5A5A5#41 = .ok .rdCntOverflow := by decide
theorem test_decode_rdOutCount : decode 0x05C00000000#41 = .ok .rdOutCount := by decide
theorem test_decode_wrOutPop : decode 0x160DEADBEEF#41 = .ok (.wrOutPop 0xDEADBEEF#32) := by decide
theorem test_decode_rdOutW0 : decode 0x080A5A5A5A5#41 = .ok .rdOutW0 := by decide
theorem test_decode_rdOutW1 : decode 0x08400000000#41 = .ok .rdOutW1 := by decide
theorem test_decode_rdOutW2 : decode 0x088FFFFFFFF#41 = .ok .rdOutW2 := by decide
theorem test_decode_rdOutW3 : decode 0x08CA5A5A5A5#41 = .ok .rdOutW3 := by decide
theorem test_decode_rdOutW4 : decode 0x09000000000#41 = .ok .rdOutW4 := by decide
theorem test_decode_rdOutW5 : decode 0x094FFFFFFFF#41 = .ok .rdOutW5 := by decide
theorem test_decode_rdOutW6 : decode 0x098A5A5A5A5#41 = .ok .rdOutW6 := by decide
theorem test_decode_rdOutW7 : decode 0x09C00000000#41 = .ok .rdOutW7 := by decide
theorem test_decode_rdOutW8 : decode 0x0A0FFFFFFFF#41 = .ok .rdOutW8 := by decide
theorem test_decode_rdOutW9 : decode 0x0A4A5A5A5A5#41 = .ok .rdOutW9 := by decide
theorem test_decode_rdOutW10 : decode 0x0A800000000#41 = .ok .rdOutW10 := by decide
theorem test_decode_rdDiagW0 : decode 0x0C0FFFFFFFF#41 = .ok .rdDiagW0 := by decide
theorem test_decode_rdDiagW1 : decode 0x0C4A5A5A5A5#41 = .ok .rdDiagW1 := by decide
theorem test_decode_rdDiagW2 : decode 0x0C800000000#41 = .ok .rdDiagW2 := by decide
theorem test_decode_rdDiagW3 : decode 0x0CCFFFFFFFF#41 = .ok .rdDiagW3 := by decide
theorem test_decode_rdDiagW4 : decode 0x0D0A5A5A5A5#41 = .ok .rdDiagW4 := by decide
theorem test_decode_rdDiagW5 : decode 0x0D400000000#41 = .ok .rdDiagW5 := by decide
theorem test_decode_rdDiagW6 : decode 0x0D8FFFFFFFF#41 = .ok .rdDiagW6 := by decide
theorem test_decode_rdDiagW7 : decode 0x0DCA5A5A5A5#41 = .ok .rdDiagW7 := by decide
theorem test_decode_rdDiagW8 : decode 0x0E000000000#41 = .ok .rdDiagW8 := by decide
theorem test_decode_rdDiagW9 : decode 0x0E4FFFFFFFF#41 = .ok .rdDiagW9 := by decide
theorem test_decode_rdDiagW10 : decode 0x0E8A5A5A5A5#41 = .ok .rdDiagW10 := by decide
theorem test_decode_rdDiagCode : decode 0x0EC00000000#41 = .ok .rdDiagCode := by decide
theorem test_decode_rdDiagCrcCalc : decode 0x0F0FFFFFFFF#41 = .ok .rdDiagCrcCalc := by decide

theorem test_decode_misaligned_first : decode 0x13D00000000#41 = .error .misaligned := by decide
theorem test_decode_unmapped : decode 0x03C00000000#41 = .error .unmapped := by decide
theorem test_decode_write_ro : decode 0x10000000000#41 = .error .writeRo := by decide
theorem test_decode_read_wo : decode 0x06000000000#41 = .error .readWo := by decide
theorem test_encode_push : encode (.wrPush 0xFE#32) = 0x110000000FE#41 := by decide
theorem test_decodeTableWord : decodeTableWord 48 0x110000000FE = some (.wrPush 0xFE#32) := by decide
theorem test_decodeTableWord_refuses_bit_41 : decodeTableWord 48 0x200000000000 = none := by decide

/-! ### Helpers of the tests -/

/-- Whether an outcome is a next state that meets `p`. -/
def goesTo (o : Host.Outcome State Fault Refusal) (p : State → Bool) : Bool :=
  match o with
  | .next t => p t
  | .fault _ => false
  | .refused _ => false

/-- `s` with one transaction word issued. -/
def issued (x : BusWord) (s : State) : State :=
  { s with pending := [.transaction x] }

/-- The instruction, performed as one step, answers `v` without error. -/
def answers (i : Instr) (s : State) (v : Word) : Bool :=
  goesTo (step (issued (encode i) s)) fun t => t.resp == some ⟨v, false⟩

/-- The fixture frame FIX (section L1.9), from its fields. -/
def fixture : FrameFields where
  gyroX := 0x3DCCCCCD#32
  gyroY := 0x3E4CCCCD#32
  gyroZ := 0x3E99999A#32
  accelX := 0x3FC00000#32
  accelY := 0xC0066666#32
  accelZ := 0x411CF5C3#32
  timestamp := 0x499602D2#32
  status := 0x00#8
  sequence := 0x2A#8
  temperature := 0x00FA#16

/-- The first 39 bytes of FIX, as the spec writes them. -/
def fixHead : List Byte :=
  [0xFE#8, 0x81#8, 0xFF#8, 0x56#8, 0x3D#8, 0xCC#8, 0xCC#8, 0xCD#8, 0x3E#8, 0x4C#8, 0xCC#8, 0xCD#8] ++
  [0x3E#8, 0x99#8, 0x99#8, 0x9A#8, 0x3F#8, 0xC0#8, 0x00#8, 0x00#8, 0xC0#8, 0x06#8, 0x66#8, 0x66#8] ++
  [0x41#8, 0x1C#8, 0xF5#8, 0xC3#8, 0x49#8, 0x96#8, 0x02#8, 0xD2#8, 0x00#8, 0x2A#8, 0x00#8, 0xFA#8] ++
  [0x10#8, 0x99#8, 0x82#8]

/-- All but the last byte of FIX pushed from reset: the state of the last row but one of section L2.2. -/
def nearlyFramed : State :=
  { State.reset with buf := fixHead }

/-- The snapshot of FIX. -/
def fixSnapshot : Snapshot :=
  snap (recordOf (fixHead ++ [0xC0#8]) true true true)

/-- Four records in the queue: it is full at the depth of R10. -/
def queueFull : State :=
  { State.reset with outq := List.replicate 4 Record.zero }

/-! ### Single steps, with the values of spec/95_test_vectors.md -/

-- L2.1
theorem test_crc_of_zero_byte : crc32 [0x00#8] = 0x4E08BFB4#32 := by decide
theorem test_crc_check_value :
    crc32 [0x31#8, 0x32#8, 0x33#8, 0x34#8, 0x35#8, 0x36#8, 0x37#8, 0x38#8, 0x39#8] = 0x0376E6E7#32 := by decide +kernel
theorem test_crc_of_fixture : crc32 (fixHead.take 36) = 0x109982C0#32 := by decide +kernel
theorem test_crc_data_folds_low_byte :
    goesTo (step (issued 0x130FFFFFF31#41 State.reset)) (fun t => t.crcAcc == 0x9EFBCF93#32) = true := by decide
theorem test_rd_crc_value : answers .rdCrcValue State.reset 0xFFFFFFFF#32 = true := by decide

-- L1.9 and L2.3
theorem test_fixture_encodes : encodeFrame fixture = fixHead ++ [0xC0#8] := by decide +kernel
theorem test_fixture_decodes :
    decodeFrame (fixHead ++ [0xC0#8]) true =
      .ok ⟨0xFE81FF56#32, 0x3DCCCCCD#32, 0x3E4CCCCD#32, 0x3E99999A#32, 0x3FC00000#32, 0xC0066666#32, 0x411CF5C3#32,
        0x499602D2#32, 0x002A00FA#32, 0x109982C0#32, 0x00000777#32⟩ 0x109982C0#32 := by decide +kernel
theorem test_decode_zeros_is_bad_header :
    (match decodeFrame (List.replicate 40 0#8) true with | .badHeader w c => w.w10 == 0x077#32 && c == 0#32 | _ => false) =
      true := by decide
theorem test_valid_flags : [0x00, 0x01, 0x08, 0x10, 0x20, 0x40, 0x45, 0x80, 0xFF].map (fun n => validFlags (BitVec.ofNat 8 n)) =
    [0x77#32, 0x76#32, 0x77#32, 0x67#32, 0x57#32, 0x37#32, 0x32#32, 0x77#32, 0x00#32] := by decide

-- L2.2
theorem test_find_magic_second_start : findMagic [0xFE#8, 0xFE#8, 0x81#8, 0xFF#8, 0x56#8] = some 1 := by decide
theorem test_find_magic_none : findMagic [0xFE#8, 0x81#8, 0xFF#8] = none := by decide
theorem test_push_fourth_noise_byte :
    goesTo (step (issued 0x11000000033#41 { State.reset with buf := [0x00#8, 0x11#8, 0x22#8] }))
      (fun t => t.buf == [0x11#8, 0x22#8, 0x33#8] && t.cnt.discarded == 1#32) = true := by decide
theorem test_push_overflow :
    goesTo (step (issued 0x11000000000#41
        { State.reset with buf := Config.magicBytes ++ List.replicate 60 0#8 }))
      (fun t => t.buf.length == 3 && t.cnt.overflow == 1#32 && t.cnt.discarded == 62#32 && statusWord t == 0x400#32) =
      true := by decide

-- L2.5
theorem test_push_last_byte_of_fixture :
    goesTo (step (issued 0x110000000C0#41 nearlyFramed))
      (fun t => t.buf.length == 0 && statusWord t == 0x006#32 && t.diag.code == 0x101#32 &&
        t.outq.map Record.w10 == [0x777#32] && t.cnt.framesOk == 1#32 && t.cnt.emitted == 1#32) = true := by decide +kernel
theorem test_push_last_byte_of_bad :
    goesTo (step (issued 0x110000000C1#41 nearlyFramed))
      (fun t => t.buf == [0x99#8, 0x82#8, 0xC1#8] && statusWord t == 0x200#32 && t.diag.code == 0x003#32 &&
        t.cnt.crcMismatch == 1#32 && t.cnt.discarded == 37#32) = true := by decide +kernel
theorem test_push_refused :
    goesTo (step (issued 0x110000000FE#41 queueFull))
      (fun t => t.resp == some ⟨0#32, true⟩ && t.errInfo == 0x1510#32 && t.outq.length == 4) = true := by decide
theorem test_out_window_words :
    goesTo (exec .rdOutW8 { State.reset with outq := [{ Record.zero with w8 := 7#32 }, Record.zero] })
      (fun t => t.resp == some ⟨7#32, false⟩) = true := by decide

-- L2.4
theorem test_gyro_at_threshold : changed Settings.standard { Record.zero with w1 := 0x3C23D70A#32 } (snap Record.zero) = false := by
  decide +kernel
theorem test_gyro_above_threshold :
    changed Settings.standard { Record.zero with w1 := 0x3C23D70B#32 } (snap Record.zero) = true := by decide +kernel
theorem test_accel_above_threshold :
    changed Settings.standard { Record.zero with w4 := 0x3DCCCCCD#32 } (snap Record.zero) = true := by decide +kernel
theorem test_accel_below_threshold :
    changed Settings.standard { Record.zero with w4 := 0x3DCCCCCC#32 } (snap Record.zero) = false := by decide +kernel
theorem test_temp_minus_one_is_no_change :
    changed Settings.standard { Record.zero with w8 := 0xFFFF#32 } (snap Record.zero) = false := by decide +kernel
theorem test_temp_extremes :
    changed Settings.standard { Record.zero with w8 := 0x8000#32 } { snap Record.zero with temp := 0x7FFF#16 } = true := by
  decide +kernel
theorem test_infinity_against_itself :
    changed Settings.standard { Record.zero with w1 := 0x7F800000#32 } { snap Record.zero with gx := 0x7F800000#32 } = false := by
  decide
theorem test_wide_exponents :
    changed Settings.standard { Record.zero with w1 := 0x7F7FFFFF#32 } { snap Record.zero with gx := 1#32 } = true := by
  decide +kernel

-- L2.6
theorem test_wr_ctrl_ignores_high_bits :
    goesTo (exec (.wrCtrl 0xFFFFFFFF#32) State.reset) (fun t => ctrlWord t.cfg == 3#32) = true := by decide
theorem test_wr_cmd_ignores_high_bits :
    goesTo (exec (.wrCmd 0xFFFFFFC0#32) nearlyFramed) (fun t => t.buf == fixHead) = true := by decide
theorem test_wr_status_clears_by_one :
    goesTo (exec (.wrStatus 0x100#32) { State.reset with seen := ⟨true, true, true, true⟩ })
      (fun t => statusWord t == 0xE00#32) = true := by decide
theorem test_mixed_threshold :
    goesTo (exec (.wrThrGyroLo 0#32) State.reset) (fun t => t.cfg.thrGyro == 0x3F847AE100000000#64) = true := by decide

-- L2.7
theorem test_bus_errors :
    ([(0x00200000000#41, 0x0102#32), (0x13D00000000#41, 0x113D#32), (0x03C00000000#41, 0x023C#32),
        (0x1FC00000000#41, 0x12FC#32), (0x10000000000#41, 0x1300#32), (0x1F000000000#41, 0x13F0#32),
        (0x00800000000#41, 0x0408#32), (0x06000000000#41, 0x0460#32)] : List (BusWord × Word)).all
      (fun p => goesTo (step (issued p.1 State.reset))
        fun t => t.errInfo == p.2 && t.resp == some ⟨0#32, true⟩ && statusWord t == 0x800#32) = true := by decide
theorem test_misaligned_before_full :
    goesTo (step (issued 0x111000000FE#41 queueFull)) (fun t => t.errInfo == 0x1111#32) = true := by decide

-- The first instruction after reset, through withFetchWord.
theorem test_withFetchWord_runs :
    goesTo (step (State.reset.withFetchWord 48 0x00000000000)) (fun t => t.resp == some ⟨0x4B564801#32, false⟩) = true := by
  decide

/-! ### Witnesses: values that meet the hypotheses of each statement together, clause by clause -/

theorem witness_DecodeInvertsEncode : (Instr.wrPush 0xFFFFFFFF#32).wellFormed = true := by decide
theorem witness_DecodedWord_read : decode 0x004FFFFFFFF#41 = .ok .rdCtrl := by decide
theorem witness_DecodedWord_write : decode 0x10400000003#41 = .ok (.wrCtrl 3#32) := by decide
theorem witness_DecodeChecks_misaligned : (0xFF#8 : Addr).toNat % 4 ≠ 0 := by decide
theorem witness_DecodeChecks_unmapped : (0xF4#8 : Addr).toNat % 4 = 0 ∧ Addr.mapped 0xF4#8 = false := by decide
theorem witness_DecodeChecks_writeRo : (0xF0#8 : Addr).toNat ∈ readOnlyOffsets := by decide
theorem witness_DecodeChecks_readWo : (0x60#8 : Addr).toNat ∈ writeOnlyOffsets := by decide
theorem witness_DecodeChecks_row : Transaction.wellFormed ⟨true, 0x60#8, 0#32⟩ = true := by decide
theorem witness_StepRuns_transaction :
    (issued 0x10400000003#41 State.reset).params.wf = true ∧
      (issued 0x10400000003#41 State.reset).pending = .transaction 0x10400000003#41 :: [] ∧
      decode 0x10400000003#41 = .ok (.wrCtrl 3#32) ∧ (Instr.wrCtrl 3#32).wellFormed = true := by decide
theorem witness_StepRuns_idle : State.reset.params.wf = true ∧ State.reset.pending = [] := by decide
theorem witness_StepRuns_event :
    ({ queueFull with pending := [.hardwareReset] } : State).params.wf = true ∧
      ({ queueFull with pending := [.hardwareReset] } : State).pending = .hardwareReset :: [] := by decide
theorem witness_BusErrors_misaligned : ((0x1FFFFFFFFFF#41).extractLsb' 32 8).toNat % 4 ≠ 0 := by decide
theorem witness_BusErrors_unmapped : Addr.mapped ((0x03C00000000#41).extractLsb' 32 8) = false := by decide
theorem witness_BusErrors_writeRo :
    (0x15C00000000#41 : BusWord).getLsbD 40 = true ∧
      ((0x15C00000000#41).extractLsb' 32 8).toNat ∈ readOnlyOffsets := by decide
theorem witness_BusErrors_readWo :
    (0x06000000000#41 : BusWord).getLsbD 40 = false ∧
      ((0x06000000000#41).extractLsb' 32 8).toNat ∈ writeOnlyOffsets := by decide
theorem witness_BusErrors_outFull :
    (0x11000000000#41 : BusWord).getLsbD 40 = true ∧ (0x11000000000#41).extractLsb' 32 8 = 0x10#8 ∧
      (issued 0x11000000000#41 queueFull).outq.length = queueFull.params.outDepth := by decide
theorem witness_NothingStops : ({ State.reset with params := ⟨40, 1⟩ } : State).params.wf = true := by decide
theorem witness_ReadsLeave : (encodeTransaction .rdStatus).write = false := by decide
theorem witness_ReadsLeave_failing :
    (0x0FC00000000#41 : BusWord).getLsbD 40 = false ∧ decode 0x0FC00000000#41 = .error .unmapped := by decide
theorem witness_ResetInv : State.reset.Inv :=
  ⟨by decide, by decide, by decide, by decide, by decide, by decide, by decide⟩
theorem witness_LengthReads_three : ({ State.reset with buf := [0xFE#8, 0x81#8, 0xFF#8] } : State).Inv :=
  ⟨by decide, by decide, by decide, by decide, by decide, by decide, by decide⟩
theorem witness_nearlyFramedInv : nearlyFramed.Inv :=
  ⟨by decide, by decide, by decide, by decide, by decide, by decide, by decide⟩
theorem witness_LengthReads_fits : queueFull.buf.length < 2 ^ 32 ∧ queueFull.outq.length < 2 ^ 32 := by decide
theorem witness_OutWindow_empty : State.reset.outq = [] := by decide
theorem witness_OutWindow_head : queueFull.outq = Record.zero :: List.replicate 3 Record.zero := by decide
theorem witness_ThresholdPattern :
    State.reset.params.wf = true ∧
      ({ State.reset with pending := issueAll (wr64 .gyro 0x7FF8000000000001#64) } : State).pending =
        issueAll (wr64 .gyro 0x7FF8000000000001#64) ++ [] := by decide
theorem witness_ThresholdPattern_accel :
    ({ State.reset with pending := issueAll (wr64 .accel 0#64) } : State).pending = issueAll (wr64 .accel 0#64) ++ [] := by decide
theorem witness_ThresholdPattern_temp :
    ({ State.reset with pending := issueAll (wr64 .temp 0#64) } : State).pending = issueAll (wr64 .temp 0#64) ++ [] := by decide
theorem witness_SoftReset : (0xFFFFFFFF#32 : Word).getLsbD 0 = true := by decide
theorem witness_Idempotent :
    exec (.wrCtrl 3#32) State.reset =
      .next { State.reset with cfg := ⟨true, true, 0x3F847AE147AE147B#64, 0x3FB999999999999A#64, 0x3FF0000000000000#64⟩
                               resp := some ⟨0#32, false⟩ } := rfl
theorem witness_FrameWithItsCrc :
    (fixHead ++ [0xC0#8]).length = 40 ∧
      be32 (fixHead ++ [0xC0#8]) 36 = crc32 ((fixHead ++ [0xC0#8]).take 36) := by decide +kernel
theorem witness_CrcPseudo :
    State.reset.params.wf = true ∧
      ({ State.reset with pending := issueAll (crcOfBytes [0x31#8, 0x32#8]) } : State).pending =
        issueAll (crcOfBytes [0x31#8, 0x32#8]) ++ [] := by decide
theorem witness_CrcPseudo_no_bytes :
    ({ State.reset with pending := issueAll (crcOfBytes []) } : State).pending = issueAll (crcOfBytes []) ++ [] := by decide
theorem witness_FindMagic_spacing :
    (0 : Nat) < 4 ∧ ((Config.magicBytes ++ Config.magicBytes).drop 0).take 4 = [0xFE#8, 0x81#8, 0xFF#8, 0x56#8] ∧
      ((Config.magicBytes ++ Config.magicBytes).drop 4).take 4 = [0xFE#8, 0x81#8, 0xFF#8, 0x56#8] := by decide
theorem witness_Decode_short : fixHead.length = 39 := by decide
theorem witness_Decode_badHeader :
    (List.replicate 40 0#8 : List Byte).length = 40 ∧
      (List.replicate 40 0#8 : List Byte).take 4 ≠ [0xFE#8, 0x81#8, 0xFF#8, 0x56#8] := by decide
theorem witness_Decode_mismatch :
    (fixHead ++ [0xC1#8]).length = 40 ∧ (fixHead ++ [0xC1#8]).take 4 = [0xFE#8, 0x81#8, 0xFF#8, 0x56#8] ∧
      crc32 ((fixHead ++ [0xC1#8]).take 36) ≠ be32 (fixHead ++ [0xC1#8]) 36 := by decide +kernel
theorem witness_Decode_match :
    (fixHead ++ [0xC0#8]).take 4 = [0xFE#8, 0x81#8, 0xFF#8, 0x56#8] ∧
      crc32 ((fixHead ++ [0xC0#8]).take 36) = be32 (fixHead ++ [0xC0#8]) 36 := by decide +kernel
theorem witness_DecodedRecord_ok :
    decodeFrame (fixHead ++ [0xC0#8]) true = .ok (recordOf (fixHead ++ [0xC0#8]) true true true) 0x109982C0#32 := by
  decide +kernel
theorem witness_DecodedRecord_mismatch :
    decodeFrame (fixHead ++ [0xC1#8]) true =
      .crcMismatch (recordOf (fixHead ++ [0xC1#8]) true false true) 0x109982C0#32 := by decide +kernel
theorem witness_DecodedRecord_badHeader :
    decodeFrame (List.replicate 40 0#8) true =
      .badHeader (recordOf (List.replicate 40 0#8) false false false) 0#32 := by decide
theorem witness_Rounding_exact : 2 ^ 53 - 1 < 2 ^ 53 := by decide
theorem witness_Rounding_tie : 2 ^ 53 ≤ 2 ^ 53 + 1 ∧ roundUnits (2 ^ 53 + 1) = 2 ^ 52 * 2 ^ 1 := by decide
theorem witness_Rounding_tie_up : roundUnits (2 ^ 53 + 3) = (2 ^ 52 + 2) * 2 ^ 1 := by decide
theorem witness_Temperature : Settings.standard.thrTemp = 0x3FF0000000000000#64 := by decide
theorem witness_Temperature_finite :
    (0xFFEFFFFFFFFFFFFF#64 : Dword).extractLsb' 52 11 ≠ 0x7FF#11 ∧ Settings.standard.thrTemp.extractLsb' 52 11 ≠ 0x7FF#11 := by
  decide
theorem witness_Axis_finite :
    (0x7F7FFFFF#32 : Word).extractLsb' 23 8 ≠ 0xFF#8 ∧ (0x80000001#32 : Word).extractLsb' 23 8 ≠ 0xFF#8 ∧
      (0x0000000000000001#64 : Dword).extractLsb' 52 11 ≠ 0x7FF#11 := by decide
theorem witness_Special_nan :
    (0x7F800001#32 : Word).extractLsb' 23 8 = 0xFF#8 ∧ (0x7F800001#32 : Word).extractLsb' 0 23 ≠ 0#23 := by decide
theorem witness_Special_finite : (0x7F7FFFFF#32 : Word).extractLsb' 23 8 ≠ 0xFF#8 := by decide
theorem witness_Special_nan_threshold :
    (0x7FF0000000000001#64 : Dword).extractLsb' 52 11 = 0x7FF#11 ∧
      (0x7FF0000000000001#64 : Dword).extractLsb' 0 52 ≠ 0#52 := by decide
theorem witness_Special_negative_threshold :
    (0x8000000000000001#64 : Dword).getLsbD 63 = true ∧ (0x8000000000000001#64 : Dword) ≠ 0x8000000000000000#64 ∧
      f64 0x8000000000000001#64 ≠ .nan := by decide
theorem witness_Repeated :
    NotNegative Settings.standard.thrGyro ∧ NotNegative Settings.standard.thrAccel ∧
      NotNegative Settings.standard.thrTemp := by decide
theorem witness_Repeated_minus_zero : NotNegative 0x8000000000000000#64 := by decide
theorem witness_Repeated_negative : ¬ NotNegative 0xBFF0000000000000#64 := by decide
theorem witness_FilterCompares :
    ({ Record.zero with w7 := 1#32, w8 := 0xFFFF0000#32 } : Record).w8.extractLsb' 0 16 =
      Record.zero.w8.extractLsb' 0 16 := by decide
theorem witness_PushRefused : queueFull.outq.length = queueFull.params.outDepth := by decide
theorem witness_PushAccepted : State.reset.outq.length ≠ State.reset.params.outDepth := by decide
theorem witness_PushWithoutMagic :
    State.reset.outq.length ≠ State.reset.params.outDepth ∧ ([0x00#8, 0x11#8, 0x22#8] : List Byte).length ≠ State.reset.params.bufCap ∧
      findMagic ([0x00#8, 0x11#8, 0x22#8] ++ [(0x33#32 : Word).extractLsb' 0 8]) = none := by decide
theorem witness_PushIncomplete :
    ({ State.reset with buf := 0x00#8 :: fixHead.take 38 } : State).buf.length ≠ State.reset.params.bufCap ∧
      findMagic ((0x00#8 :: fixHead.take 38) ++ [(0x82#32 : Word).extractLsb' 0 8]) = some 1 ∧
      ((0x00#8 :: fixHead.take 38) ++ [(0x82#32 : Word).extractLsb' 0 8]).length - 1 < 40 := by decide
theorem witness_GoodFrame :
    nearlyFramed.outq.length ≠ nearlyFramed.params.outDepth ∧ nearlyFramed.params.wf = true ∧
      (nearlyFramed.buf ++ [(0xC0#32 : Word).extractLsb' 0 8]).length = 40 ∧
      (nearlyFramed.buf ++ [(0xC0#32 : Word).extractLsb' 0 8]).take 4 = [0xFE#8, 0x81#8, 0xFF#8, 0x56#8] ∧
      crc32 ((nearlyFramed.buf ++ [(0xC0#32 : Word).extractLsb' 0 8]).take 36) =
        be32 (nearlyFramed.buf ++ [(0xC0#32 : Word).extractLsb' 0 8]) 36 ∧
      nearlyFramed.filt = none := by decide +kernel
theorem witness_GoodFrame_changed :
    changed nearlyFramed.cfg (recordOf (fixHead ++ [0xC0#8]) true true true) { fixSnapshot with temp := 0#16 } = true := by
  decide +kernel
theorem witness_GoodFrame_unchanged :
    changed nearlyFramed.cfg (recordOf (fixHead ++ [0xC0#8]) true true true) fixSnapshot = false := by decide
theorem witness_GoodFrame_unchecked :
    ({ nearlyFramed.cfg with validateCrc := false } : Settings).validateCrc = true →
      crc32 ((fixHead ++ [0xC1#8]).take 36) = be32 (fixHead ++ [0xC1#8]) 36 := by decide
theorem witness_BadFrame :
    nearlyFramed.outq.length ≠ nearlyFramed.params.outDepth ∧ nearlyFramed.params.wf = true ∧
      (nearlyFramed.buf ++ [(0xC1#32 : Word).extractLsb' 0 8]).length = 40 ∧
      (nearlyFramed.buf ++ [(0xC1#32 : Word).extractLsb' 0 8]).take 4 = [0xFE#8, 0x81#8, 0xFF#8, 0x56#8] ∧
      nearlyFramed.cfg.validateCrc = true ∧
      crc32 ((nearlyFramed.buf ++ [(0xC1#32 : Word).extractLsb' 0 8]).take 36) ≠
        be32 (nearlyFramed.buf ++ [(0xC1#32 : Word).extractLsb' 0 8]) 36 ∧
      nearlyFramed.cfg.acceptBadCrc = false := by decide +kernel
theorem witness_AcceptedBadFrame :
    ({ nearlyFramed with cfg := { nearlyFramed.cfg with acceptBadCrc := true } } : State).cfg.acceptBadCrc = true ∧
      nearlyFramed.filt = none ∧
      changed nearlyFramed.cfg (recordOf (fixHead ++ [0xC1#8]) true false true) fixSnapshot = false ∧
      changed nearlyFramed.cfg (recordOf (fixHead ++ [0xC1#8]) true false true) { fixSnapshot with gx := 0#32 } = true := by
  decide +kernel
theorem witness_PushIntoFull :
    State.reset.outq.length ≠ State.reset.params.outDepth ∧ State.reset.params.wf = true ∧
      (Config.magicBytes ++ List.replicate 60 0#8).length = State.reset.params.bufCap ∧
      findMagic ((Config.magicBytes ++ List.replicate 60 0#8).drop 1 ++ [(0#32 : Word).extractLsb' 0 8]) = none := by
  decide
theorem witness_PushIntoFull_magic_remains :
    (Params.mk 40 1).wf = true ∧ (0#8 :: fixHead).length = (Params.mk 40 1).bufCap ∧
      findMagic ((0#8 :: fixHead).drop 1 ++ [(0xC0#32 : Word).extractLsb' 0 8]) = some 0 := by decide
theorem witness_PushAddsAtMostOne :
    nearlyFramed.Inv ∧ goesTo (exec (.wrPush 0xC0#32) nearlyFramed) (fun t => t.outq.length == 1) = true :=
  ⟨witness_nearlyFramedInv, by decide +kernel⟩
theorem witness_NoiseThenOneFrame :
    State.reset.params.wf = true ∧ State.reset.buf = [] ∧
      (List.replicate 3 Record.zero).length < State.reset.params.outDepth ∧ State.reset.filt = none ∧
      findMagic [0x00#8, 0xFE#8, 0x81#8, 0xFF#8] = none := by decide
theorem witness_EveryStep :
    (issued 0x110000000C0#41 nearlyFramed).Inv ∧
      goesTo (step (issued 0x110000000C0#41 nearlyFramed)) (fun t => t.buf.length == 0) = true :=
  ⟨⟨by decide, by decide, by decide, by decide, by decide, by decide, by decide⟩, by decide +kernel⟩
theorem witness_NeverBad : (issued 0x110000000C0#41 nearlyFramed).NeverBad := by decide
theorem witness_ByteBalance_push :
    State.reset.params.wf = true ∧ State.reset.outq.length ≠ State.reset.params.outDepth ∧
      goesTo (exec (.wrPush 0xFE#32) State.reset) (fun t => t.buf.length == 1) = true := by decide
theorem witness_ByteBalance_refused : queueFull.params.wf = true ∧ queueFull.outq.length = queueFull.params.outDepth := by decide
theorem witness_ByteBalance_command :
    (0x2C#32 : Word).getLsbD 0 = false ∧ (0x2C#32 : Word).getLsbD 1 = false ∧ (0x2C#32 : Word).getLsbD 4 = false := by decide
theorem witness_FilterBalance :
    nearlyFramed.cfg.acceptBadCrc = false ∧ (0x2E#32 : Word).getLsbD 0 = false ∧ (0x2E#32 : Word).getLsbD 4 = false := by decide
theorem witness_FilterBalance_accept :
    ({ nearlyFramed with cfg := { nearlyFramed.cfg with acceptBadCrc := true } } : State).cfg.acceptBadCrc = true := by decide
theorem witness_OnlyConfiguration :
    ∀ v : Word, Instr.wrPush 0#32 ≠ .wrCtrl v ∧ Instr.wrPush 0#32 ≠ .wrThrGyroLo v ∧ Instr.wrPush 0#32 ≠ .wrThrTempHi v := by
  intro v
  exact ⟨by simp, by simp, by simp⟩
theorem witness_CrcPort :
    (∀ v : Word, Instr.wrPush 0#32 ≠ .wrCrcData v) ∧ (0x37#32 : Word).getLsbD 3 = false := ⟨by simp, by decide⟩
theorem witness_Sticky :
    ({ State.reset with seen := ⟨true, true, true, true⟩ } : State).seen.badHeader = true ∧
      (0xFFFFF0FF#32 : Word).getLsbD 8 = false ∧ (0xFFFFF0FF#32 : Word).getLsbD 9 = false ∧
      (0xFFFFF0FF#32 : Word).getLsbD 10 = false ∧ (0xFFFFF0FF#32 : Word).getLsbD 11 = false := by decide

end Sys2Proof.Tests
end

/-! PROOF. O12: a read changes nothing but the response, and a rejected word sets the error record (spec/20_memory.md R47). -/

namespace Sys2Proof.Machine

/-- The last answer alone is kept. -/
@[simp] theorem answer_answer (s : State) (v w : Word) (d e : Bool) : (s.answer v d).answer w e = s.answer w e := rfl

/-- A value of the state that the response plays no part in (spec/10_state.md R21: `resp` is no element of the state tuple). -/
def IgnoresResponse (f : State → Word) : Prop :=
  ∀ s v e, f (s.answer v e) = f s

/-- A read answers with a value of the state that no answer changes (R47), said once for the 44 read rows of the opcode table:
the other 12 rows have W set. -/
theorem exec_eq_readAnswer_of_read (i : Instr) (h : (encodeTransaction i).write = false) :
    ∃ f, IgnoresResponse f ∧ ∀ s, exec i s = readAnswer (f s) s := by
  cases i
  case wrCtrl | wrCmd | wrStatus | wrPush | wrThrGyroLo | wrThrGyroHi | wrThrAccelLo | wrThrAccelHi | wrThrTempLo |
      wrThrTempHi | wrCrcData | wrOutPop =>
    nomatch h
  all_goals exact ⟨_, fun _ _ _ => rfl, fun _ => rfl⟩

/-- A read performed in the state that its own answer left gives that state again (R47). -/
theorem exec_read_repeatable (i : Instr) (s : State) (h : (encodeTransaction i).write = false) :
    ∃ v, exec i s = .next (s.answer v false) ∧ exec i (s.answer v false) = .next (s.answer v false) := by
  obtain ⟨f, hf, hexec⟩ := exec_eq_readAnswer_of_read i h
  refine ⟨f s, hexec s, ?_⟩
  rw [hexec, hf s (f s) false, readAnswer, answer_answer]

/-- Bits 11:8 of err_info hold the cause code: ADDR stands below them, WRITE above (spec/10_state.md R32). -/
theorem errInfoWord_causeField (c : BusCause) (w : Bool) (a : Addr) :
    (errInfoWord c w a).extractLsb' 8 4 = (causeCode c).extractLsb' 0 4 := by
  apply BitVec.eq_of_getLsbD_eq
  intro n hn
  have haddr : a.getLsbD (8 + n) = false := BitVec.getLsbD_of_ge a _ (by omega)
  have hwrite : (flagBit w 12).getLsbD (8 + n) = false := by
    simp [flagBit, show 8 + n < 12 by omega]
  simp only [errInfoWord, BitVec.getLsbD_extractLsb', BitVec.getLsbD_or, BitVec.getLsbD_setWidth,
    BitVec.getLsbD_shiftLeft, haddr, hwrite]
  simp [hn, show 8 + n < 32 by omega]

/-- A bus error never writes 0 into err_info: no cause has code 0 (spec/60_exceptions.md R175). -/
theorem errInfoWord_ne_zero (c : BusCause) (w : Bool) (a : Addr) : errInfoWord c w a ≠ 0#32 := by
  have hcause : (causeCode c).extractLsb' 0 4 ≠ 0#4 := by cases c <;> decide
  intro h
  rw [← errInfoWord_causeField c w a, h] at hcause
  exact hcause (by decide)

/-- A word that the decoder rejects is answered with the bus error of the rejection (R55, R174). -/
theorem runTransaction_of_decode_error {x : BusWord} {c : BusCause} (h : decode x = .error c) (s : State) :
    runTransaction x s = .next (raiseBusError c (Transaction.ofWord x).write (Transaction.ofWord x).addr s) := by
  rw [runTransaction, h]

/-- Settles O12: a read from what exec answers for it, a rejected word from the bus error it raises. -/
theorem readsLeaveTheStateUnchanged : Obligations.ReadsLeaveTheStateUnchanged := by
  unfold Obligations.ReadsLeaveTheStateUnchanged
  constructor
  · intro i s h
    exact exec_read_repeatable i s h
  · intro x s c _ hrejected
    exact ⟨_, errInfoWord_ne_zero c _ _, runTransaction_of_decode_error hrejected s⟩

end Sys2Proof.Machine

/-! PROOF. O23: WR CMD performs the action of each bit written with 1 (spec/30_encoding.md R60). -/

namespace Sys2Proof.Machine

/-- SOFT_RESET, as what it leaves in each field it may write (spec/70_reset_and_hazards.md R195). -/
theorem actionIf_softReset (b : Bool) (s : State) :
    actionIf b softReset s = { s with
      buf := if b then [] else s.buf
      filt := if b then none else s.filt
      outq := if b then [] else s.outq
      diag := if b then Diag.zero else s.diag
      crcAcc := if b then Config.crcInit else s.crcAcc
      seen := if b then Sticky.clear else s.seen
      cnt := if b then Counters.zero else s.cnt
      errInfo := if b then 0#32 else s.errInfo } := by
  cases b <;> rfl

theorem actionIf_flushBuf (b : Bool) (s : State) :
    actionIf b flushBuf s = { s with buf := if b then [] else s.buf } := by
  cases b <;> rfl

theorem actionIf_clearFilter (b : Bool) (s : State) :
    actionIf b clearFilter s = { s with filt := if b then none else s.filt } := by
  cases b <;> rfl

theorem actionIf_crcInitPort (b : Bool) (s : State) :
    actionIf b crcInitPort s = { s with crcAcc := if b then Config.crcInit else s.crcAcc } := by
  cases b <;> rfl

theorem actionIf_clearCounters (b : Bool) (s : State) :
    actionIf b clearCounters s = { s with cnt := if b then Counters.zero else s.cnt } := by
  cases b <;> rfl

theorem actionIf_flushOut (b : Bool) (s : State) :
    actionIf b flushOut s = { s with outq := if b then [] else s.outq } := by
  cases b <;> rfl

/-- Two actions that set one field to the same value set it when either bit is 1; `a` is the bit of the earlier action. -/
theorem ite_ite_eq_ite_or {α : Type} (a b : Bool) (x y : α) :
    (if b then x else if a then x else y) = if a || b then x else y := by
  simp only [Bool.or_comm a b, Bool.or_eq_true, ite_or]

/-- The six actions of CMD field by field: the five single ones write five different fields, and each of these is also written,
with the same value, by SOFT_RESET (R60, R149). -/
theorem commandActions_eq (v : Word) (s : State) :
    commandActions v s = { s with
      buf := if bitOperand v 0 || bitOperand v 1 then [] else s.buf
      filt := if bitOperand v 0 || bitOperand v 2 then none else s.filt
      outq := if bitOperand v 0 || bitOperand v 5 then [] else s.outq
      diag := if bitOperand v 0 then Diag.zero else s.diag
      crcAcc := if bitOperand v 0 || bitOperand v 3 then Config.crcInit else s.crcAcc
      seen := if bitOperand v 0 then Sticky.clear else s.seen
      cnt := if bitOperand v 0 || bitOperand v 4 then Counters.zero else s.cnt
      errInfo := if bitOperand v 0 then 0#32 else s.errInfo } := by
  rw [commandActions, actionIf_softReset, actionIf_flushBuf, actionIf_clearFilter, actionIf_crcInitPort,
    actionIf_clearCounters, actionIf_flushOut]
  simp only [ite_ite_eq_ite_or]

/-- WR CMD is always performed: its answer adds the response to the six actions (R54, R149). -/
theorem exec_wrCmd (v : Word) (s : State) :
    exec (.wrCmd v) s = .next ((commandActions v s).answer 0#32 false) := rfl

/-- Settles O23, from the six actions field by field. -/
theorem commandBitsPerformTheirActions : Obligations.CommandBitsPerformTheirActions := by
  unfold Obligations.CommandBitsPerformTheirActions
  intro v s
  rw [exec_wrCmd, commandActions_eq]
  rfl

end Sys2Proof.Machine

/-! PROOF. O27: WR CRC_DATA folds one byte into the port's accumulator (spec/40_crc_engine.md R76). -/

namespace Sys2Proof.Machine

/-- WR CRC_DATA is always performed: its answer adds the response to the fold of `v[7:0]` (R76). -/
theorem exec_wrCrcData (v : Word) (s : State) :
    exec (.wrCrcData v) s =
      .next (State.answer { s with crcAcc := crcByte s.crcAcc (byteOperand v) } 0#32 false) := rfl

/-- The worked example of R76: a zero byte still takes its eight rounds. -/
theorem crcByte_crcInit_zero : crcByte Config.crcInit 0x00#8 = 0x4E08BFB4#32 := by
  decide

/-- Settles O27: the row of the opcode table, the fold with its frame, and the worked example. -/
theorem crcDataFoldsOneByte : Obligations.CrcDataFoldsOneByte := by
  unfold Obligations.CrcDataFoldsOneByte
  refine ⟨fun v s => ⟨?encoding, ?fold⟩, crcByte_crcInit_zero⟩
  case encoding => rfl
  case fold =>
    rw [exec_wrCrcData]
    rfl

end Sys2Proof.Machine

/-! PROOF. O31: FINDMAGIC is the lowest index of the magic, and its occurrences are four bytes apart
(spec/41_synchronizer.md R79). -/

namespace Sys2Proof.Machine

/-- The magic stands at index `k` of the sequence: the loop test of R79, read off the bytes. -/
def MagicAt (b : List Byte) (k : Nat) : Prop := (b.drop k).take 4 = Config.magicBytes

/-- The search's own test, at index `k`. -/
theorem magicAt_iff_startsMagic (b : List Byte) (k : Nat) : MagicAt b k ↔ startsMagic (b.drop k) = true :=
  (startsMagic_iff _).symm

theorem magicAt_cons_succ (a : Byte) (b : List Byte) (k : Nat) : MagicAt (a :: b) (k + 1) ↔ MagicAt b k := Iff.rfl

theorem magicAt_of_findMagic {b : List Byte} {k : Nat} (h : findMagic b = some k) : MagicAt b k :=
  (magicAt_iff_startsMagic b k).2 (startsMagic_drop_of_findMagic b k h)

/-- The search passes over no occurrence. -/
theorem not_magicAt_of_lt_findMagic {b : List Byte} {k j : Nat} (h : findMagic b = some k) (hj : j < k) :
    ¬ MagicAt b j := by
  induction b generalizing k j with
  | nil => simp at h
  | cons a b ih =>
    rw [findMagic_cons] at h
    split at h
    next =>
      cases h
      omega
    next hs =>
      obtain ⟨m, hm, rfl⟩ := Option.map_eq_some_iff.1 h
      cases j with
      | zero => rwa [magicAt_iff_startsMagic]
      | succ j =>
        rw [magicAt_cons_succ]
        exact ih hm (by omega)

theorem findMagic_eq_none_iff (b : List Byte) : findMagic b = none ↔ ∀ j, ¬ MagicAt b j := by
  constructor
  · intro h j hj
    have hzero := (findMagic_eq_zero_iff _).2 ((magicAt_iff_startsMagic b j).1 hj)
    rw [findMagic_drop_of_none b j h] at hzero
    cases hzero
  · intro h
    cases hf : findMagic b with
    | none => rfl
    | some k => exact absurd (magicAt_of_findMagic hf) (h k)

theorem findMagic_eq_some_iff (b : List Byte) (k : Nat) :
    findMagic b = some k ↔ MagicAt b k ∧ ∀ j < k, ¬ MagicAt b j := by
  constructor
  · intro h
    exact ⟨magicAt_of_findMagic h, fun _ hj => not_magicAt_of_lt_findMagic h hj⟩
  · rintro ⟨hk, hlow⟩
    cases hf : findMagic b with
    | none => exact absurd hk ((findMagic_eq_none_iff b).1 hf k)
    | some m =>
      have hkm : ¬ k < m := fun hlt => not_magicAt_of_lt_findMagic hf hlt hk
      have hmk : ¬ m < k := fun hlt => hlow m hlt (magicAt_of_findMagic hf)
      rw [show m = k by omega]

/-- Where the magic stands, the sequence holds its bytes one by one. -/
theorem getElem?_of_magicAt {b : List Byte} {k i : Nat} (h : MagicAt b k) (hi : i < 4) :
    b[k + i]? = Config.magicBytes[i]? := by
  rw [← show (b.drop k).take 4 = Config.magicBytes from h, List.getElem?_take_of_lt hi, List.getElem?_drop]

/-- The first byte of the magic does not occur again in it, so no occurrence starts inside another (R79). -/
theorem magicBytes_first_unique : ∀ i < 4, Config.magicBytes[i]? = Config.magicBytes[0]? → i = 0 := by
  decide

theorem add_four_le_of_magicAt {b : List Byte} {j k : Nat} (hjk : j < k) (hj : MagicAt b j) (hk : MagicAt b k) :
    j + 4 ≤ k := by
  by_contra hlt
  obtain ⟨i, rfl⟩ := Nat.exists_eq_add_of_lt hjk
  have hinner : b[j + (i + 1)]? = Config.magicBytes[i + 1]? := getElem?_of_magicAt hj (by omega)
  have hfirst : b[j + (i + 1)]? = Config.magicBytes[0]? := getElem?_of_magicAt (i := 0) hk (by decide)
  have := magicBytes_first_unique (i + 1) (by omega) (hinner.symm.trans hfirst)
  omega

/-- Settles O31: the search answers its lowest occurrence, and two occurrences cannot overlap. -/
theorem findMagicGivesTheLowestIndex : Obligations.FindMagicGivesTheLowestIndex := by
  unfold Obligations.FindMagicGivesTheLowestIndex
  exact ⟨findMagic_eq_some_iff, findMagic_eq_none_iff, fun _ _ _ => add_four_le_of_magicAt⟩

end Sys2Proof.Machine

/-! SUPPORT. The bits of the FLAGS word (spec/30_encoding.md R70) and the chain of checks that DECODE makes on the bytes it is
given (spec/42_decoder.md R85, R95). -/

namespace Sys2Proof.Machine

/-- A flag is one bit of a word, at its own position. -/
theorem flagBit_getLsbD (b : Bool) {k : Nat} (hk : k < 32) (n : Nat) :
    (flagBit b k).getLsbD n = (decide (n = k) && b) := by
  simp only [flagBit, BitVec.getLsbD_shiftLeft, BitVec.getLsbD_setWidth, BitVec.getLsbD_ofBool]
  obtain hlt | rfl | hgt := Nat.lt_trichotomy n k
  · simp [hlt, hlt.ne]
  · simp [hk]
  · simp [hgt.ne', show n - k ≠ 0 by omega]

/-- Bit `n` of VALIDFLAGS is the inverted status bit of the same position, where that position has a flag (R90). -/
theorem validFlags_getLsbD (st : Byte) (n : Nat) :
    (validFlags st).getLsbD n =
      if n = 0 ∨ n = 1 ∨ n = 2 ∨ n = 4 ∨ n = 5 ∨ n = 6 then !(st.getLsbD n) else false := by
  simp (disch := decide) only [validFlags, BitVec.getLsbD_or, flagBit_getLsbD]
  split
  next hflag =>
    obtain rfl | rfl | rfl | rfl | rfl | rfl := hflag <;> simp
  next hnone =>
    obtain ⟨h0, h1, h2, h4, h5, h6⟩ : n ≠ 0 ∧ n ≠ 1 ∧ n ≠ 2 ∧ n ≠ 4 ∧ n ≠ 5 ∧ n ≠ 6 := by simpa using hnone
    simp [h0, h1, h2, h4, h5, h6]

/-- FLAGS bit by bit: VALIDFLAGS, with CRC_CHECKED, CRC_MATCH and HEADER_OK in bits 8, 9 and 10 (R70). -/
theorem flagsWord_getLsbD (st : Byte) (checked isMatch hdrOk : Bool) (n : Nat) :
    (flagsWord st checked isMatch hdrOk).getLsbD n =
      ((validFlags st).getLsbD n || (decide (n = 8) && checked) || (decide (n = 9) && isMatch) ||
        (decide (n = 10) && hdrOk)) := by
  simp (disch := decide) only [flagsWord, BitVec.getLsbD_or, flagBit_getLsbD]

/-- FLAGS bit 8 is CRC_CHECKED. -/
theorem recordOf_crcChecked (f : List Byte) (checked isMatch hdrOk : Bool) :
    (recordOf f checked isMatch hdrOk).w10.getLsbD 8 = checked := by
  simp only [recordOf, flagsWord_getLsbD, validFlags_getLsbD]
  simp

/-- FLAGS bit 9 is CRC_MATCH. -/
theorem recordOf_crcMatch (f : List Byte) (checked isMatch hdrOk : Bool) :
    (recordOf f checked isMatch hdrOk).w10.getLsbD 9 = isMatch := by
  simp only [recordOf, flagsWord_getLsbD, validFlags_getLsbD]
  simp

/-- The low byte of FLAGS is VALIDFLAGS of the frame's status byte: the other flags stand above it (R70). -/
theorem recordOf_flagsLowByte (f : List Byte) (checked isMatch hdrOk : Bool) :
    (recordOf f checked isMatch hdrOk).w10.extractLsb' 0 8 = (validFlags (byteAt f 32)).extractLsb' 0 8 := by
  apply BitVec.eq_of_getLsbD_eq
  intro n hn
  simp [recordOf, BitVec.getLsbD_extractLsb', flagsWord_getLsbD, show n ≠ 8 by omega, show n ≠ 9 by omega,
    show n ≠ 10 by omega]

/-- DECODE as one chain of checks on the bytes it is given: length, header, whether the CRC is checked, CRC (R95). -/
theorem decodeFrame_eq_ite (b : List Byte) (vc : Bool) :
    decodeFrame b vc =
      if b.length < 40 then .incomplete
      else if b.take 4 ≠ Config.magicBytes then .badHeader (recordOf (b.take 40) false false false) 0#32
      else if vc = false then .ok (recordOf (b.take 40) false false true) 0#32
      else if crc32 (b.take 36) = be32 b 36 then .ok (recordOf (b.take 40) true true true) (crc32 (b.take 36))
      else .crcMismatch (recordOf (b.take 40) true false true) (crc32 (b.take 36)) := by
  have hcases := decodeFrame_cases b vc
  rw [be32_take b 40 0 (by decide), be32_take b 40 36 (by decide), List.take_take,
    show min 36 40 = 36 from rfl] at hcases
  have hheader (hlen : 40 ≤ b.length) := be32_zero_eq_magic_iff b (by omega)
  obtain ⟨hshort, hres⟩ | ⟨hlen, hbad, hres⟩ | ⟨hlen, hmagic, hvc, hcrc, hres⟩ | ⟨hlen, hmagic, hvc, hcrc, hres⟩ |
    ⟨hlen, hmagic, hvc, hres⟩ := hcases
  · rw [hres, if_pos hshort]
  · rw [hres, if_neg (Nat.not_lt.2 hlen), if_pos (mt (hheader hlen).2 hbad)]
  · rw [hres, if_neg (Nat.not_lt.2 hlen), if_neg (not_not_intro ((hheader hlen).1 hmagic)), if_neg (by simp [hvc]),
      if_neg hcrc]
  · rw [hres, if_neg (Nat.not_lt.2 hlen), if_neg (not_not_intro ((hheader hlen).1 hmagic)), if_neg (by simp [hvc]),
      if_pos hcrc]
  · rw [hres, if_neg (Nat.not_lt.2 hlen), if_neg (not_not_intro ((hheader hlen).1 hmagic)), if_pos hvc]

end Sys2Proof.Machine

/-! PROOF. O32: DECODE reports the first failing check, and computes a CRC only when it checks it (spec/42_decoder.md R88). -/

namespace Sys2Proof.Machine

/-- Settles O32: the hypotheses of each clause choose one branch of DECODE's chain of checks, and CRC_CHECKED and CRC_MATCH are
read off the record of that branch. -/
theorem decodeReportsTheFirstFailingCheck : Obligations.DecodeReportsTheFirstFailingCheck := by
  unfold Obligations.DecodeReportsTheFirstFailingCheck
  intro b vc
  rw [decodeFrame_eq_ite, Config.magicBytes]
  refine ⟨?short, ?badHeader, ?mismatch, ?matching, ?unchecked⟩
  case short =>
    intro hlen
    rw [if_pos hlen]
  case badHeader =>
    intro hlen hheader
    rw [if_neg (Nat.not_lt.2 hlen), if_pos hheader]
    exact ⟨_, rfl, recordOf_crcChecked .., recordOf_crcMatch ..⟩
  all_goals
    intro hlen hheader hvc
    rw [if_neg (Nat.not_lt.2 hlen), if_neg (not_not_intro hheader)]
  case mismatch =>
    intro hcrc
    rw [if_neg (by simp [hvc]), if_neg hcrc]
    exact ⟨_, rfl, recordOf_crcChecked .., recordOf_crcMatch ..⟩
  case matching =>
    intro hcrc
    rw [if_neg (by simp [hvc]), if_pos hcrc]
    exact ⟨_, rfl, recordOf_crcChecked .., recordOf_crcMatch ..⟩
  case unchecked =>
    rw [if_pos hvc]
    exact ⟨_, rfl, recordOf_crcChecked .., recordOf_crcMatch ..⟩

end Sys2Proof.Machine

/-! PROOF. O34: VALIDFLAGS inverts the status bits 0, 1, 2, 4, 5 and 6 in place (spec/42_decoder.md R90). -/

namespace Sys2Proof.Machine

/-- Settles O34: VALIDFLAGS bit by bit, its two worked values (R91), and where FLAGS and W8 hold the status byte. -/
theorem validityFlagsInvertTheStatusBits : Obligations.ValidityFlagsInvertTheStatusBits := by
  unfold Obligations.ValidityFlagsInvertTheStatusBits
  refine ⟨validFlags_getLsbD, ?allValid, ?someInvalid, fun f checked isMatch hdrOk => ⟨?flags, ?status⟩⟩
  case allValid => decide
  case someInvalid => decide
  case flags => exact recordOf_flagsLowByte f checked isMatch hdrOk
  case status => exact be32_top_byte f 32

end Sys2Proof.Machine

/-! SUPPORT. CHANGED channel by channel, and what it reads of a record (spec/43_filter.md R99, R105). -/

namespace Sys2Proof.Machine

/-- Of two finite magnitudes the larger is the greater (R100). -/
theorem gt64_magnitudes_iff (m n : Nat) : gt64 (.fin false m) (.fin false n) = true ↔ n < m := by
  simp [gt64, signedUnits]

/-- The gyro test holds when one of its three axes is beyond `thr_gyro` (R99). -/
theorem gyroChanged_iff (c : Settings) (w : Record) (p : Snapshot) :
    gyroChanged c w p = true ↔
      gt64 (absDiff32 w.w1 p.gx) (f64 c.thrGyro) = true ∨ gt64 (absDiff32 w.w2 p.gy) (f64 c.thrGyro) = true ∨
        gt64 (absDiff32 w.w3 p.gz) (f64 c.thrGyro) = true := by
  simp only [gyroChanged, Bool.or_eq_true, or_assoc]

/-- The accel test holds when one of its three axes is beyond `thr_accel` (R99). -/
theorem accelChanged_iff (c : Settings) (w : Record) (p : Snapshot) :
    accelChanged c w p = true ↔
      gt64 (absDiff32 w.w4 p.ax) (f64 c.thrAccel) = true ∨ gt64 (absDiff32 w.w5 p.ay) (f64 c.thrAccel) = true ∨
        gt64 (absDiff32 w.w6 p.az) (f64 c.thrAccel) = true := by
  simp only [accelChanged, Bool.or_eq_true, or_assoc]

/-- CHANGED holds when one of the three channel tests does (R99). -/
theorem changed_iff (c : Settings) (w : Record) (p : Snapshot) :
    changed c w p = true ↔ gyroChanged c w p = true ∨ accelChanged c w p = true ∨ tempChanged c w p = true := by
  simp only [changed, Bool.or_eq_true, or_assoc]

/-- A snapshot holds exactly W1 to W6 and the temperature of its record (R98). -/
theorem snap_eq_iff (w w' : Record) :
    snap w = snap w' ↔
      w.w1 = w'.w1 ∧ w.w2 = w'.w2 ∧ w.w3 = w'.w3 ∧ w.w4 = w'.w4 ∧ w.w5 = w'.w5 ∧ w.w6 = w'.w6 ∧
        w.w8.extractLsb' 0 16 = w'.w8.extractLsb' 0 16 := by
  simp only [snap, Snapshot.mk.injEq]

/-- CHANGED reads of a record what its snapshot holds, and nothing else (R105). -/
theorem changed_congr_snap {w w' : Record} (h : snap w = snap w') (c : Settings) (p : Snapshot) :
    changed c w p = changed c w' p := by
  obtain ⟨h1, h2, h3, h4, h5, h6, htemp⟩ := (snap_eq_iff w w').1 h
  have hgyro : gyroChanged c w p = gyroChanged c w' p := by rw [gyroChanged, gyroChanged, h1, h2, h3]
  have haccel : accelChanged c w p = accelChanged c w' p := by rw [accelChanged, accelChanged, h4, h5, h6]
  have htempTest : tempChanged c w p = tempChanged c w' p := by rw [tempChanged, tempChanged, htemp]
  rw [changed, changed, hgyro, haccel, htempTest]

/-- The difference of a value and itself is `+0`, or NaN where the value is not finite (R106). -/
theorem abs64_sub64_self (x : F64) : abs64 (sub64 x x) = .nan ∨ abs64 (sub64 x x) = .fin false 0 := by
  cases x with
  | nan => exact .inl rfl
  | inf neg => exact .inl (by simp [sub64, abs64])
  | fin neg n => exact .inr (by simp [sub64, abs64])

/-- No value is farther from itself than a threshold that is not negative (R106). -/
theorem gt64_self_difference {d : Dword} (h : NotNegative d) (x : F64) :
    gt64 (abs64 (sub64 x x)) (f64 d) = false := by
  obtain hnan | hzero := abs64_sub64_self x
  · rw [hnan, gt64_nan_left]
  · rw [hzero]
    exact h

/-- A record is no change against its own snapshot, where no threshold is negative (R106). -/
theorem changed_snap_self (c : Settings) (w : Record) (hgyro : NotNegative c.thrGyro) (haccel : NotNegative c.thrAccel)
    (htemp : NotNegative c.thrTemp) : changed c w (snap w) = false := by
  have hgyroTest : gyroChanged c w (snap w) = false := by
    simp only [gyroChanged, absDiff32, snap, gt64_self_difference hgyro, Bool.or_false]
  have haccelTest : accelChanged c w (snap w) = false := by
    simp only [accelChanged, absDiff32, snap, gt64_self_difference haccel, Bool.or_false]
  have htempTest : tempChanged c w (snap w) = false := gt64_self_difference htemp _
  rw [changed, hgyroTest, haccelTest, htempTest]
  rfl

end Sys2Proof.Machine

/-! PROOF. O59: CHANGED is one channel beyond its threshold, strictly (spec/43_filter.md R99, R100). -/

namespace Sys2Proof.Machine

/-- Settles O59: CHANGED from its three channel tests, and strictness from the cases of the comparison. -/
theorem changedIsOneChannelBeyondItsThreshold : Obligations.ChangedIsOneChannelBeyondItsThreshold := by
  unfold Obligations.ChangedIsOneChannelBeyondItsThreshold
  refine ⟨fun c w p => ?channels, gt64_irrefl, gt64_magnitudes_iff, fun n => rfl⟩
  case channels =>
    rw [changed_iff, gyroChanged_iff, accelChanged_iff]
    exact Iff.rfl

end Sys2Proof.Machine

/-! PROOF. O40: the filter reads W1 to W6 and the temperature, and nothing else of a record (spec/43_filter.md R105). -/

namespace Sys2Proof.Machine

/-- Settles O40: agreement in the channels is equality of the snapshots, and the snapshot is all that CHANGED reads. -/
theorem filterComparesOnlyItsChannels : Obligations.FilterComparesOnlyItsChannels := by
  unfold Obligations.FilterComparesOnlyItsChannels
  intro c w w' p h1 h2 h3 h4 h5 h6 htemp
  have hsnap : snap w = snap w' := (snap_eq_iff w w').2 ⟨h1, h2, h3, h4, h5, h6, htemp⟩
  refine ⟨changed_congr_snap hsnap c p, hsnap, ?noChange⟩
  case noChange =>
    rw [← hsnap]
    exact changed_snap_self c w

end Sys2Proof.Machine

/-! PROOF. O26: WR OUT_POP removes the head record, and a pop of an empty queue has no effect
(spec/44_pipeline_and_output.md R121). -/

namespace Sys2Proof.Machine

/-- WR OUT_POP is always performed: its answer adds the response to the removal of the head, and no part of the operand is used
(R65, R121). -/
theorem exec_wrOutPop (v : Word) (s : State) :
    exec (.wrOutPop v) s = .next (State.answer { s with outq := s.outq.tail } 0#32 false) := rfl

/-- The tail of the empty queue is the queue itself, so a pop of it leaves the state as it was. -/
theorem dropHead_of_empty {s : State} (h : s.outq = []) : { s with outq := s.outq.tail } = s := by
  have htail : s.outq.tail = s.outq := by rw [h, List.tail_nil]
  rw [htail]

theorem dropHead_of_cons {s : State} {r : Record} {rs : List Record} (h : s.outq = r :: rs) :
    { s with outq := s.outq.tail } = { s with outq := rs } := by
  rw [h, List.tail_cons]

/-- Settles O26: the row of the opcode table, and the removal of the head for each of the two shapes of the queue. -/
theorem popRemovesTheHeadRecord : Obligations.PopRemovesTheHeadRecord := by
  unfold Obligations.PopRemovesTheHeadRecord
  intro v s
  rw [exec_wrOutPop]
  refine ⟨?encoding, ?empty, ?nonempty⟩
  case encoding => rfl
  case empty =>
    intro hempty
    rw [dropHead_of_empty hempty]
    rfl
  case nonempty =>
    intro r rs hcons
    rw [dropHead_of_cons hcons]
    rfl

end Sys2Proof.Machine

/-! PROOF. O9: the five causes of a bus error in their order, and no bus error otherwise (spec/60_exceptions.md R174 to R176). -/

namespace Sys2Proof

/-- `ADDR[1:0] = 0`, said by the field and by the remainder of the byte address (R44). -/
theorem lowBits_eq_zero_iff_mod_four (a : Addr) : a.extractLsb' 0 2 = 0#2 ↔ a.toNat % 4 = 0 :=
  (lowBits_eq_zero_iff_aligned a).trans beq_iff_eq

/-- R58 names no register exactly at the unmapped slots. -/
theorem regAt_eq_none_iff (a : Addr) : regAt a = none ↔ a.mapped = false := by
  rw [← regAt_isSome_eq_mapped, Option.isSome_eq_false_iff, Option.isNone_iff_eq_none]

theorem exists_regAt_of_mapped {a : Addr} (h : a.mapped ≠ false) : ∃ r, regAt a = some r :=
  Option.ne_none_iff_exists'.mp (mt (regAt_eq_none_iff a).mp h)

/-- The register at a slot refuses a write, whatever the operand, exactly when the slot is one of the RO offsets (R58). -/
theorem writeRow_eq_none_iff {a : Addr} {r : Reg} (h : regAt a = some r) (v : Word) :
    writeRow v r = none ↔ a.toNat ∈ readOnlyOffsets := by
  have hoffsets := writeRow_none_iff_readOnly a
  rw [h, Option.any_some, ← writeRow_isNone v r] at hoffsets
  rw [← Option.isNone_iff_eq_none, hoffsets, List.contains_iff_mem]

/-- The register at a slot refuses a read exactly when the slot is one of the WO offsets (R58). -/
theorem readRow_eq_none_iff {a : Addr} {r : Reg} (h : regAt a = some r) :
    readRow r = none ↔ a.toNat ∈ writeOnlyOffsets := by
  have hoffsets := readRow_none_iff_writeOnly a
  rw [h, Option.any_some] at hoffsets
  rw [← Option.isNone_iff_eq_none, hoffsets, List.contains_iff_mem]

/-- Check 1 of R55. -/
theorem decodeTransaction_of_misaligned {t : Transaction} (h : t.addr.toNat % 4 ≠ 0) :
    decodeTransaction t = .error .misaligned := by
  have hlow := mt (lowBits_eq_zero_iff_mod_four t.addr).mp h
  simp [decodeTransaction, hlow]

/-- Check 2 of R55. -/
theorem decodeTransaction_of_unmapped {t : Transaction} (haligned : t.addr.toNat % 4 = 0) (h : t.addr.mapped = false) :
    decodeTransaction t = .error .unmapped := by
  have hlow := (lowBits_eq_zero_iff_mod_four t.addr).mpr haligned
  simp [decodeTransaction, hlow, (regAt_eq_none_iff t.addr).mpr h]

/-- Check 3 of R55. -/
theorem decodeTransaction_of_writeRo {t : Transaction} (haligned : t.addr.toNat % 4 = 0)
    (hmapped : t.addr.mapped ≠ false) (hw : t.write = true) (h : t.addr.toNat ∈ readOnlyOffsets) :
    decodeTransaction t = .error .writeRo := by
  have hlow := (lowBits_eq_zero_iff_mod_four t.addr).mpr haligned
  obtain ⟨r, hr⟩ := exists_regAt_of_mapped hmapped
  simp [decodeTransaction, hlow, hr, hw, (writeRow_eq_none_iff hr t.wdata).mpr h]

/-- Check 4 of R55. -/
theorem decodeTransaction_of_readWo {t : Transaction} (haligned : t.addr.toNat % 4 = 0)
    (hmapped : t.addr.mapped ≠ false) (hw : t.write = false) (h : t.addr.toNat ∈ writeOnlyOffsets) :
    decodeTransaction t = .error .readWo := by
  have hlow := (lowBits_eq_zero_iff_mod_four t.addr).mpr haligned
  obtain ⟨r, hr⟩ := exists_regAt_of_mapped hmapped
  simp [decodeTransaction, hlow, hr, hw, (readRow_eq_none_iff hr).mpr h]

/-- A transaction that passes the four checks of R55 names an instruction. -/
theorem decodeTransaction_of_checks {t : Transaction} (haligned : t.addr.toNat % 4 = 0)
    (hmapped : t.addr.mapped ≠ false) (hwrite : ¬(t.write = true ∧ t.addr.toNat ∈ readOnlyOffsets))
    (hread : ¬(t.write = false ∧ t.addr.toNat ∈ writeOnlyOffsets)) : ∃ i, decodeTransaction t = .ok i := by
  obtain ⟨w, a, v⟩ := t
  have hlow := (lowBits_eq_zero_iff_mod_four a).mpr haligned
  obtain ⟨r, hr⟩ := exists_regAt_of_mapped hmapped
  cases w with
  | true =>
    have hrow : writeRow v r ≠ none := fun hnone => hwrite ⟨rfl, (writeRow_eq_none_iff hr v).mp hnone⟩
    obtain ⟨i, hi⟩ := Option.ne_none_iff_exists'.mp hrow
    exact ⟨i, decodeTransaction_write a v r i hlow hr hi⟩
  | false =>
    have hrow : readRow r ≠ none := fun hnone => hread ⟨rfl, (readRow_eq_none_iff hr).mp hnone⟩
    obtain ⟨i, hi⟩ := Option.ne_none_iff_exists'.mp hrow
    exact ⟨i, decodeTransaction_read a v r i hlow hr hi⟩

/-- PUSH stands at `0x10` and nowhere else (R58). -/
theorem regAt_eq_push_iff : ∀ a : Addr, regAt a = some .push ↔ a = 0x10#8 := by decide

/-- PUSH is the one register whose write row is WR PUSH. -/
theorem writeRow_eq_wrPush_iff (v u : Word) (r : Reg) : writeRow v r = some (.wrPush u) ↔ r = .push ∧ v = u := by
  cases r
  case push => simp [writeRow]
  all_goals exact ⟨nofun, nofun⟩

theorem readRow_ne_wrPush (u : Word) (r : Reg) : readRow r ≠ some (.wrPush u) := by
  cases r <;> nofun

/-- The transactions that name WR PUSH: the writes to `0x10`, their operand the whole WDATA (R65, R119). -/
theorem decodeTransaction_eq_wrPush_iff (t : Transaction) (u : Word) :
    decodeTransaction t = .ok (.wrPush u) ↔ t.write = true ∧ t.addr = 0x10#8 ∧ t.wdata = u := by
  constructor
  · intro h
    rcases decodeTransaction_cases t with ⟨-, hd⟩ | ⟨-, -, hd⟩ | ⟨-, -, -, -, -, hd⟩ | ⟨-, -, -, -, -, hd⟩ |
      ⟨r, i, -, hreg, hw, hrow, hd⟩ | ⟨r, i, -, -, -, hrow, hd⟩
    case inr.inr.inr.inr.inl =>
      obtain rfl : i = .wrPush u := Except.ok.inj (hd.symm.trans h)
      obtain ⟨rfl, hu⟩ := (writeRow_eq_wrPush_iff _ _ _).mp hrow
      exact ⟨hw, (regAt_eq_push_iff _).mp hreg, hu⟩
    case inr.inr.inr.inr.inr =>
      obtain rfl : i = .wrPush u := Except.ok.inj (hd.symm.trans h)
      exact absurd hrow (readRow_ne_wrPush u r)
    all_goals exact nomatch hd.symm.trans h
  · obtain ⟨w, a, v⟩ := t
    rintro ⟨rfl, rfl, rfl⟩
    exact decodeTransaction_write _ _ .push _ rfl rfl rfl

end Sys2Proof

namespace Sys2Proof.Machine

/-- The one bus error that exec raises: WR PUSH with the queue full (R119). -/
theorem exec_wrPush_of_full {s : State} (h : s.outq.length = s.params.outDepth) (v : Word) :
    exec (.wrPush v) s = .next (raiseBusError .outFull true 0x10#8 s) :=
  if_pos h

/-- Every instruction is answered without error, unless it is WR PUSH and the queue is full (R119, R175). -/
theorem exec_answers_unless_refused_push (i : Instr) (s : State)
    (h : ∀ v, i = .wrPush v → s.outq.length ≠ s.params.outDepth) :
    ∃ (t : State) (v : Word), exec i s = .next (t.answer v false) := by
  cases i
  case wrPush v => exact ⟨pushByte (byteOperand v) s, 0#32, if_neg (h v rfl)⟩
  all_goals exact ⟨_, _, rfl⟩

/-- A word that the decoder accepts is performed (R55). -/
theorem runTransaction_of_decode_ok {x : BusWord} {i : Instr} (h : decode x = .ok i) (s : State) :
    runTransaction x s = exec i s := by
  rw [runTransaction, h]

/-- OUT_FULL, the fifth cause: a write to PUSH with the queue full (R119, R175). -/
theorem runTransaction_of_refused_push {x : BusWord} {s : State} (hw : x.getLsbD 40 = true)
    (ha : x.extractLsb' 32 8 = 0x10#8) (hfull : s.outq.length = s.params.outDepth) :
    runTransaction x s = .next (raiseBusError .outFull (x.getLsbD 40) (x.extractLsb' 32 8) s) := by
  have hpush : decode x = .ok (.wrPush (x.extractLsb' 0 32)) :=
    (decodeTransaction_eq_wrPush_iff _ _).mpr ⟨hw, ha, rfl⟩
  rw [runTransaction_of_decode_ok hpush, exec_wrPush_of_full hfull, hw, ha]

/-- A word that names an instruction, and no write to PUSH with the queue full, is answered without error (R54). -/
theorem runTransaction_answers {x : BusWord} {i : Instr} {s : State} (hd : decode x = .ok i)
    (hpush : ¬(x.getLsbD 40 = true ∧ x.extractLsb' 32 8 = 0x10#8 ∧ s.outq.length = s.params.outDepth)) :
    ∃ t v, runTransaction x s = .next t ∧ t.resp = some ⟨v, false⟩ := by
  have hnotRefused : ∀ v, i = .wrPush v → s.outq.length ≠ s.params.outDepth := by
    rintro v rfl hfull
    obtain ⟨hw, ha, -⟩ := (decodeTransaction_eq_wrPush_iff _ _).mp hd
    exact hpush ⟨hw, ha, hfull⟩
  obtain ⟨t, v, hexec⟩ := exec_answers_unless_refused_push i s hnotRefused
  exact ⟨t.answer v false, v, (runTransaction_of_decode_ok hd s).trans hexec, answer_resp t v false⟩

/-- Settles O9, cause by cause: the first four reject the word while it is decoded, the fifth is the refused PUSH, and every
other word names an instruction that is answered without error. -/
theorem onlyTheFiveCausesRaiseABusError : Obligations.OnlyTheFiveCausesRaiseABusError := by
  unfold Obligations.OnlyTheFiveCausesRaiseABusError
  intro s x a w failed
  split_ifs with hmisaligned hunmapped hwriteRo hreadWo hpush
  · exact runTransaction_of_decode_error (decodeTransaction_of_misaligned hmisaligned) s
  · exact runTransaction_of_decode_error (decodeTransaction_of_unmapped (not_not.mp hmisaligned) hunmapped) s
  · obtain ⟨hw, hro⟩ := hwriteRo
    exact runTransaction_of_decode_error (decodeTransaction_of_writeRo (not_not.mp hmisaligned) hunmapped hw hro) s
  · obtain ⟨hw, hwo⟩ := hreadWo
    exact runTransaction_of_decode_error (decodeTransaction_of_readWo (not_not.mp hmisaligned) hunmapped hw hwo) s
  · obtain ⟨hw, ha, hfull⟩ := hpush
    exact runTransaction_of_refused_push hw ha hfull
  · obtain ⟨i, hd⟩ : ∃ i, decode x = .ok i :=
      decodeTransaction_of_checks (not_not.mp hmisaligned) hunmapped hwriteRo hreadWo
    exact runTransaction_answers hd hpush

end Sys2Proof.Machine

/-! PROOF. O24: a soft reset keeps the configuration and nothing else (spec/70_reset_and_hazards.md R195). -/

namespace Sys2Proof.Machine

/-- SOFT_RESET absorbs the other five actions of its command: each would set a field to the reset value that it already holds
(R149, R195). -/
theorem commandActions_of_softReset {v : Word} (h : bitOperand v 0 = true) (s : State) :
    commandActions v s = softReset s := by
  simp only [commandActions_eq, h, Bool.true_or, if_true]
  rfl

/-- Settles O24: with bit 0 set WR CMD performs the soft reset and is answered, whatever its other bits. -/
theorem softResetKeepsOnlyTheConfiguration : Obligations.SoftResetKeepsOnlyTheConfiguration := by
  unfold Obligations.SoftResetKeepsOnlyTheConfiguration
  intro v s hbit
  rw [exec_wrCmd, commandActions_of_softReset hbit]
  rfl

end Sys2Proof.Machine

/-! PROOF. O1, O2, O3, O4: the decoder and the encoder against each other and against the register map
(spec/30_encoding.md R54 to R58). -/

namespace Sys2Proof

/-- The W and ADDR that encodeTransaction writes for an instruction name its own row of the register map. -/
theorem exists_row_of_instr (i : Instr) :
    ∃ r, regAt (encodeTransaction i).addr = some r ∧
      (if (encodeTransaction i).write then writeRow (encodeTransaction i).wdata r else readRow r) = some i := by
  cases i
  all_goals exact ⟨_, rfl, rfl⟩

/-- R58 names registers at aligned slots alone. -/
theorem lowBits_of_regAt {a : Addr} {r : Reg} (h : regAt a = some r) : a.extractLsb' 0 2 = 0#2 := by
  have hmapped : a.mapped = true := by rw [← regAt_isSome_eq_mapped, h, Option.isSome_some]
  exact (lowBits_eq_zero_iff_aligned a).mpr (aligned_of_mapped a hmapped)

theorem decodeTransaction_encodeTransaction (i : Instr) : decodeTransaction (encodeTransaction i) = .ok i := by
  obtain ⟨r, hreg, hrow⟩ := exists_row_of_instr i
  revert hreg hrow
  generalize encodeTransaction i = t
  obtain ⟨w, a, v⟩ := t
  intro hreg hrow
  cases w with
  | true => exact decodeTransaction_write a v r i (lowBits_of_regAt hreg) hreg hrow
  | false => exact decodeTransaction_read a v r i (lowBits_of_regAt hreg) hreg hrow

/-- Settles O1: an instruction's word carries the fields of its row, and these name the row. -/
theorem decodeInvertsEncode : Obligations.DecodeInvertsEncode := by
  unfold Obligations.DecodeInvertsEncode
  intro i _
  rw [encode, decode_toWord, decodeTransaction_encodeTransaction]

/-- The read row at each of the 256 slots is encoded with that slot's address. -/
theorem encodeTransaction_readRow_all :
    ∀ a : Addr, ((regAt a).bind readRow).all (fun i => encodeTransaction i == ⟨false, a, 0#32⟩) = true := by
  decide

/-- The write row at each of the 256 slots is encoded with that slot's address, said with the operand 0. -/
theorem encodeTransaction_writeRow_all :
    ∀ a : Addr, ((regAt a).bind (writeRow 0#32)).all (fun i => encodeTransaction i == ⟨true, a, 0#32⟩) = true := by
  decide

/-- A write row carries its operand as WDATA, and the operand plays no other part in its encoding (R54, R65). -/
theorem encodeTransaction_writeRow (v : Word) (r : Reg) :
    (writeRow v r).map encodeTransaction =
      ((writeRow 0#32 r).map encodeTransaction).map fun t => { t with wdata := v } := by
  cases r <;> rfl

theorem encodeTransaction_of_readRow {a : Addr} {r : Reg} {i : Instr} (hreg : regAt a = some r)
    (hrow : readRow r = some i) : encodeTransaction i = ⟨false, a, 0#32⟩ := by
  have hall := encodeTransaction_readRow_all a
  rw [hreg, Option.bind_some, hrow, Option.all_some] at hall
  exact beq_iff_eq.mp hall

theorem encodeTransaction_of_writeRow {a : Addr} {r : Reg} {i : Instr} {v : Word} (hreg : regAt a = some r)
    (hrow : writeRow v r = some i) : encodeTransaction i = ⟨true, a, v⟩ := by
  have hoperand := encodeTransaction_writeRow v r
  rw [hrow, Option.map_some] at hoperand
  cases hzero : writeRow 0#32 r with
  | none =>
    rw [hzero] at hoperand
    exact nomatch hoperand
  | some j =>
    have hall := encodeTransaction_writeRow_all a
    rw [hreg, Option.bind_some, hzero, Option.all_some] at hall
    rw [hzero, Option.map_some, Option.map_some, beq_iff_eq.mp hall] at hoperand
    exact Option.some.inj hoperand

/-- An accepted transaction is its instruction's own, but for the WDATA that a read ignores (R54). -/
theorem encodeTransaction_of_decodeTransaction {t : Transaction} {i : Instr} (h : decodeTransaction t = .ok i) :
    encodeTransaction i = ⟨t.write, t.addr, if t.write = true then t.wdata else 0#32⟩ := by
  rcases decodeTransaction_cases t with ⟨-, hd⟩ | ⟨-, -, hd⟩ | ⟨-, -, -, -, -, hd⟩ | ⟨-, -, -, -, -, hd⟩ |
    ⟨r, j, -, hreg, hw, hrow, hd⟩ | ⟨r, j, -, hreg, hw, hrow, hd⟩
  case inr.inr.inr.inr.inl =>
    obtain rfl : j = i := Except.ok.inj (hd.symm.trans h)
    rw [encodeTransaction_of_writeRow hreg hrow, hw, if_pos rfl]
  case inr.inr.inr.inr.inr =>
    obtain rfl : j = i := Except.ok.inj (hd.symm.trans h)
    rw [encodeTransaction_of_readRow hreg hrow, hw, if_neg Bool.false_ne_true]
  all_goals exact nomatch hd.symm.trans h

/-- The bits of the mask that keeps W and ADDR. -/
theorem headerMask_getLsbD : ∀ i < 41, (0x1FF00000000#41).getLsbD i = decide (32 ≤ i) := by decide

/-- Clearing the low 32 bits of a word clears its WDATA and nothing else (R54). -/
theorem toWord_clear_wdata (x : BusWord) :
    Transaction.toWord { Transaction.ofWord x with wdata := 0#32 } = x &&& 0x1FF00000000#41 := by
  apply BitVec.eq_of_getLsbD_eq
  intro i hi
  have hx : x.getLsbD i = (Transaction.ofWord x).toWord.getLsbD i := by rw [toWord_ofWord]
  rw [BitVec.getLsbD_and, headerMask_getLsbD i hi, hx, toWord_getLsbD, toWord_getLsbD]
  by_cases h32 : i < 32
  · simp [h32]
  · simp [h32, Nat.le_of_not_lt h32]

/-- Settles O2: the word is its fields, and an accepted word's fields are those of its instruction. -/
theorem decodedWordIsItsInstructionsWord : Obligations.DecodedWordIsItsInstructionsWord := by
  unfold Obligations.DecodedWordIsItsInstructionsWord
  intro x i h
  rw [encode, encodeTransaction_of_decodeTransaction h]
  cases hw : x.getLsbD 40 with
  | true =>
    have hwrite : (Transaction.ofWord x).write = true := hw
    rw [if_pos rfl, if_pos hwrite]
    exact toWord_ofWord x
  | false =>
    have hread : (Transaction.ofWord x).write ≠ true := by
      rw [Transaction.ofWord, hw]
      exact Bool.false_ne_true
    rw [if_neg Bool.false_ne_true, if_neg hread]
    exact toWord_clear_wdata x

theorem mapped_of_mem_readOnly {a : Addr} (h : a.toNat ∈ readOnlyOffsets) : a.mapped = true := by
  simp [Addr.mapped, h]

theorem mapped_of_mem_writeOnly {a : Addr} (h : a.toNat ∈ writeOnlyOffsets) : a.mapped = true := by
  simp [Addr.mapped, h]

theorem mod_four_of_mapped {a : Addr} (h : a.mapped = true) : a.toNat % 4 = 0 :=
  beq_iff_eq.mp (aligned_of_mapped a h)

/-- The four checks of R55, as the parts of a well-formed transaction. -/
theorem wellFormed_iff (t : Transaction) :
    t.wellFormed = true ↔ t.addr.toNat % 4 = 0 ∧ t.addr.mapped = true ∧
      ¬(t.write = true ∧ t.addr.toNat ∈ readOnlyOffsets) ∧ ¬(t.write = false ∧ t.addr.toNat ∈ writeOnlyOffsets) := by
  cases hw : t.write <;> simp [Transaction.wellFormed, Addr.aligned, and_assoc, hw]

/-- Settles O3: each clause is one of the checks of R55; the lists name mapped slots alone, and these are aligned. -/
theorem decodeChecksInOrder : Obligations.DecodeChecksInOrder := by
  unfold Obligations.DecodeChecksInOrder
  intro t
  rw [decode_toWord]
  refine ⟨decodeTransaction_of_misaligned, decodeTransaction_of_unmapped, ?writeRo, ?readWo, ?row⟩
  case writeRo =>
    intro hw hro
    have hmapped := mapped_of_mem_readOnly hro
    exact decodeTransaction_of_writeRo (mod_four_of_mapped hmapped) (by simp [hmapped]) hw hro
  case readWo =>
    intro hw hwo
    have hmapped := mapped_of_mem_writeOnly hwo
    exact decodeTransaction_of_readWo (mod_four_of_mapped hmapped) (by simp [hmapped]) hw hwo
  case row =>
    intro hwf
    obtain ⟨haligned, hmapped, hwrite, hread⟩ := (wellFormed_iff t).mp hwf
    obtain ⟨i, hi⟩ := decodeTransaction_of_checks haligned (by simp [hmapped]) hwrite hread
    exact ⟨i, hi, encodeTransaction_of_decodeTransaction hi⟩

/-- Settles O4, word by word. -/
theorem wordsOfTheTableDecode : Obligations.WordsOfTheTableDecode := by
  unfold Obligations.WordsOfTheTableDecode
  refine ⟨?_, ?_, ?_, ?_, ?_, ?_, ?_, ?_, ?_, ?_, ?_, ?_⟩
  all_goals decide

end Sys2Proof

/-! SUPPORT. What exec can do, said once: every instruction has one of eight effects (spec/45_control_registers.md, spec
/44_pipeline_and_output.md R119 to R145). -/

namespace Sys2Proof.Machine

/-- The seven writes of the configuration: CTRL and the six threshold halves (spec/10_state.md R23). -/
def configWrites (v : Word) : List Instr :=
  [.wrCtrl v, .wrThrGyroLo v, .wrThrGyroHi v, .wrThrAccelLo v, .wrThrAccelHi v, .wrThrTempLo v, .wrThrTempHi v]

/-- The next states of an instruction, by the kind of its row. -/
inductive ExecEffect (s : State) : Instr → State → Prop
  | read {i : Instr} (v : Word) (hread : (encodeTransaction i).write = false) : ExecEffect s i (s.answer v false)
  | config {i : Instr} (v : Word) (c : Settings) (hconfig : i ∈ configWrites v) :
      ExecEffect s i (State.answer { s with cfg := c } 0#32 false)
  | status (v : Word) :
      ExecEffect s (.wrStatus v) (State.answer { s with seen := clearSticky v s.seen } 0#32 false)
  | command (v : Word) : ExecEffect s (.wrCmd v) ((commandActions v s).answer 0#32 false)
  | crcData (v : Word) :
      ExecEffect s (.wrCrcData v) (State.answer { s with crcAcc := crcByte s.crcAcc (byteOperand v) } 0#32 false)
  | pop (v : Word) : ExecEffect s (.wrOutPop v) (State.answer { s with outq := s.outq.tail } 0#32 false)
  | refused (v : Word) (hfull : s.outq.length = s.params.outDepth) :
      ExecEffect s (.wrPush v) (raiseBusError .outFull true 0x10#8 s)
  | push (v : Word) (hroom : s.outq.length ≠ s.params.outDepth) :
      ExecEffect s (.wrPush v) ((pushByte (byteOperand v) s).answer 0#32 false)

/-- An accepted push, whatever PROCESS makes of the byte (R119). -/
theorem exec_wrPush_of_room {s : State} (h : s.outq.length ≠ s.params.outDepth) (v : Word) :
    exec (.wrPush v) s = .next ((pushByte (byteOperand v) s).answer 0#32 false) :=
  if_neg h

/-- No arm of exec stops the block, and each leaves one of the eight effects. -/
theorem exists_execEffect (i : Instr) (s : State) : ∃ t, exec i s = .next t ∧ ExecEffect s i t := by
  cases i
  case wrPush v =>
    by_cases hfull : s.outq.length = s.params.outDepth
    · exact ⟨_, exec_wrPush_of_full hfull v, .refused v hfull⟩
    · exact ⟨_, exec_wrPush_of_room hfull v, .push v hfull⟩
  case wrCmd v => exact ⟨_, rfl, .command v⟩
  case wrStatus v => exact ⟨_, rfl, .status v⟩
  case wrCrcData v => exact ⟨_, rfl, .crcData v⟩
  case wrOutPop v => exact ⟨_, rfl, .pop v⟩
  case wrCtrl v | wrThrGyroLo v | wrThrGyroHi v | wrThrAccelLo v | wrThrAccelHi v | wrThrTempLo v | wrThrTempHi v =>
    exact ⟨_, rfl, .config v _ (by simp [configWrites])⟩
  all_goals exact ⟨_, rfl, .read _ rfl⟩

theorem execEffect_of_exec {i : Instr} {s t : State} (h : exec i s = .next t) : ExecEffect s i t := by
  obtain ⟨u, hu, heffect⟩ := exists_execEffect i s
  rw [hu] at h
  cases h
  exact heffect

theorem portsKept_appendByte (b : Byte) (s : State) : PortsKept s (appendByte b s) :=
  ⟨rfl, rfl, rfl, rfl, rfl, rfl, rfl⟩

theorem portsKept_dropOldestIfFull (s : State) : PortsKept s (dropOldestIfFull s) := by
  by_cases hfull : s.buf.length = s.params.bufCap
  · rw [dropOldestIfFull_of_full s hfull]
    exact ⟨rfl, rfl, rfl, rfl, rfl, rfl, rfl⟩
  · rw [dropOldestIfFull_of_not_full s hfull]
    exact .refl s

/-- No part of an accepted push writes the configuration, the CRC port or the error record (R181). -/
theorem portsKept_pushByte (b : Byte) (s : State) : PortsKept s (pushByte b s) :=
  ((portsKept_dropOldestIfFull s).trans (portsKept_appendByte b _)).trans (portsKept_runPipeline _)

/-- The command's six actions write neither the parameters, the configuration, the pending events nor the response. -/
theorem commandActions_kept (v : Word) (s : State) :
    (commandActions v s).params = s.params ∧ (commandActions v s).cfg = s.cfg ∧
      (commandActions v s).pending = s.pending := by
  rw [commandActions_eq]
  exact ⟨rfl, rfl, rfl⟩

/-- No instruction writes the parameters or the pending events. -/
theorem ExecEffect.kept {i : Instr} {s t : State} (h : ExecEffect s i t) :
    t.params = s.params ∧ t.pending = s.pending := by
  cases h with
  | push v _ =>
    have hports := portsKept_pushByte (byteOperand v) s
    exact ⟨hports.params, hports.pending⟩
  | command v =>
    obtain ⟨hparams, -, hpending⟩ := commandActions_kept v s
    exact ⟨hparams, hpending⟩
  | read | config | status | crcData | pop | refused => exact ⟨rfl, rfl⟩

end Sys2Proof.Machine

/-! PROOF. O5, O6, O7, O11: a step performs the next event, and nothing stops the block (spec/00_scope.md section 3,
spec/60_exceptions.md section 8, spec/70_reset_and_hazards.md section 1). -/

namespace Sys2Proof.Machine

theorem step_of_pending_cons {s : State} {e : HostEvent} {rest : List HostEvent} (hwf : s.params.wf = true)
    (hpending : s.pending = e :: rest) : step s = runEvent e { s with pending := rest } := by
  have hnext : nextEvent s = some (e, { s with pending := rest }) :=
    (nextEvent_eq_some_iff s _ e).mpr ⟨rest, hpending, rfl⟩
  rw [step, if_pos hwf, runNext, hnext]

theorem step_of_idle {s : State} (hwf : s.params.wf = true) (hpending : s.pending = []) : step s = .next s := by
  have hnext : nextEvent s = none := (nextEvent_eq_none_iff s).mpr hpending
  rw [step, if_pos hwf, runNext, hnext]

/-- Settles O5: the three clauses are the events that a step can find. -/
theorem stepRunsTheDecodedInstruction : Obligations.StepRunsTheDecodedInstruction := by
  unfold Obligations.StepRunsTheDecodedInstruction
  refine ⟨?transaction, fun s e rest => step_of_pending_cons, fun s => step_of_idle⟩
  case transaction =>
    intro s x rest i hwf hpending hdecode _
    rw [step_of_pending_cons hwf hpending]
    exact runTransaction_of_decode_ok hdecode _

/-- Every event is performed to a next state, and writes neither the parameters nor the events after it (R193). -/
theorem exists_runEvent (e : HostEvent) (s : State) :
    ∃ t, runEvent e s = .next t ∧ t.params = s.params ∧ t.pending = s.pending := by
  cases e with
  | hardwareReset => exact ⟨_, rfl, rfl, rfl⟩
  | transaction x =>
    obtain ⟨i, -, hrun⟩ | ⟨c, -, hrun⟩ := runTransaction_cases x s
    · obtain ⟨t, hexec, heffect⟩ := exists_execEffect i s
      exact ⟨t, hrun.trans hexec, heffect.kept⟩
    · exact ⟨_, hrun, rfl, rfl⟩

theorem exists_step {s : State} (hwf : s.params.wf = true) :
    ∃ t, step s = .next t ∧ t.params = s.params ∧ t.pending = s.pending.tail := by
  cases hpending : s.pending with
  | nil => exact ⟨s, step_of_idle hwf hpending, rfl, hpending⟩
  | cons e rest =>
    obtain ⟨t, hrun, hparams, hrest⟩ := exists_runEvent e { s with pending := rest }
    exact ⟨t, (step_of_pending_cons hwf hpending).trans hrun, hparams, hrest⟩

/-- Settles O6: under supported parameters a step answers a next state, under others it is refused by definition. -/
theorem stepRefusesExactlyUnsupportedParameters : Obligations.StepRefusesExactlyUnsupportedParameters := by
  unfold Obligations.StepRefusesExactlyUnsupportedParameters
  intro s
  have hsupported : (s.params.bufCap < 40 ∨ s.params.outDepth = 0) ↔ ¬ s.params.wf = true := by
    rw [params_wf_iff]
    omega
  rw [hsupported]
  constructor
  · intro hrefused hwf
    obtain ⟨t, hstep, -⟩ := exists_step hwf
    exact nomatch hstep.symm.trans hrefused
  · intro hwf
    exact if_neg hwf

/-- Settles O7: HWRESET() element by element. -/
theorem hardwareResetSetsEveryElement : Obligations.HardwareResetSetsEveryElement := by
  unfold Obligations.HardwareResetSetsEveryElement
  intro s
  exact ⟨hardReset s, rfl, hardReset_cfg s, hardReset_buf s, hardReset_filt s, hardReset_outq s, hardReset_diag s,
    hardReset_crcAcc s, hardReset_seen s, hardReset_cnt s, hardReset_errInfo s, hardReset_params s, hardReset_pending s⟩

/-- Settles O11: exec and a step answer a next state, and neither writes what the model adds to the tuple of R21. -/
theorem nothingStopsTheBlock : Obligations.NothingStopsTheBlock := by
  unfold Obligations.NothingStopsTheBlock
  refine ⟨fun i s => ?exec, fun s hwf => exists_step hwf⟩
  case exec =>
    obtain ⟨t, hexec, heffect⟩ := exists_execEffect i s
    exact ⟨t, hexec, heffect.kept⟩

end Sys2Proof.Machine

/-! PROOF. O10, O41: the fields of err_info, and the refusal of a push into a full queue (spec/10_state.md R32, spec
/60_exceptions.md R174). -/

namespace Sys2Proof.Machine

/-- A word without a bit from `k` on is below `2^k`. -/
theorem toNat_lt_two_pow_of_getLsbD {x : Word} {k : Nat} (h : ∀ n, k ≤ n → x.getLsbD n = false) : x.toNat < 2 ^ k :=
  Nat.lt_pow_two_of_testBit _ fun n hn => (BitVec.testBit_toNat x).trans (h n hn)

theorem causeCode_getLsbD_of_ge (c : BusCause) {n : Nat} (h : 4 ≤ n) : (causeCode c).getLsbD n = false := by
  have hsmall : (causeCode c).toNat < 2 ^ 4 := by cases c <;> decide
  rw [← BitVec.testBit_toNat]
  exact Nat.testBit_lt_two_pow (hsmall.trans_le (Nat.pow_le_pow_right (by decide) h))

/-- err_info bit by bit: ADDR below bit 8, the cause code below bit 12, W at bit 12 (R32). -/
theorem errInfoWord_getLsbD (c : BusCause) (w : Bool) (a : Addr) (n : Nat) :
    (errInfoWord c w a).getLsbD n =
      if n < 8 then a.getLsbD n else if n < 12 then (causeCode c).getLsbD (n - 8) else (decide (n = 12) && w) := by
  simp (disch := decide) only [errInfoWord, BitVec.getLsbD_or, BitVec.getLsbD_setWidth, BitVec.getLsbD_shiftLeft,
    flagBit_getLsbD]
  by_cases haddr : n < 8
  · simp [haddr, show n < 32 by omega, show n ≠ 12 by omega]
  · rw [BitVec.getLsbD_of_ge a n (by omega)]
    by_cases hcause : n < 12
    · simp [haddr, hcause, show n < 32 by omega, show n ≠ 12 by omega]
    · simp [haddr, hcause, causeCode_getLsbD_of_ge c (show 4 ≤ n - 8 by omega)]

theorem errInfoWord_addrField (c : BusCause) (w : Bool) (a : Addr) : (errInfoWord c w a).extractLsb' 0 8 = a := by
  apply BitVec.eq_of_getLsbD_eq
  intro n hn
  rw [BitVec.getLsbD_extractLsb', errInfoWord_getLsbD]
  simp [hn]

theorem errInfoWord_writeBit (c : BusCause) (w : Bool) (a : Addr) : (errInfoWord c w a).getLsbD 12 = w := by
  rw [errInfoWord_getLsbD]
  simp

theorem errInfoWord_lt (c : BusCause) (w : Bool) (a : Addr) : (errInfoWord c w a).toNat < 2 ^ 13 := by
  apply toNat_lt_two_pow_of_getLsbD
  intro n hn
  rw [errInfoWord_getLsbD]
  simp [show ¬ n < 8 by omega, show ¬ n < 12 by omega, show n ≠ 12 by omega]

/-- Settles O10, field by field. -/
theorem errInfoHoldsAddressCauseAndDirection : Obligations.ErrInfoHoldsAddressCauseAndDirection := by
  unfold Obligations.ErrInfoHoldsAddressCauseAndDirection
  intro c w a s
  refine ⟨errInfoWord_addrField c w a, ?cause, errInfoWord_writeBit c w a, errInfoWord_lt c w a⟩
  case cause =>
    rw [raiseBusError_errInfo, errInfoWord_causeField]
    cases c <;> rfl

/-- Settles O41: the refusal is the bus error OUT_FULL of a write to `0x10`. -/
theorem pushIsRefusedWhileTheQueueIsFull : Obligations.PushIsRefusedWhileTheQueueIsFull := by
  unfold Obligations.PushIsRefusedWhileTheQueueIsFull
  intro v s hfull
  have hword : errInfoWord .outFull true 0x10#8 = 0x00001510#32 := by decide
  rw [exec_wrPush_of_full hfull, raiseBusError_eq, hword]

end Sys2Proof.Machine

/-! PROOF. O8, O13 to O18: what each read answers (spec/45_control_registers.md, spec/44_pipeline_and_output.md sections 3 and
4). -/

namespace Sys2Proof.Machine

/-- Settles O8: one evaluation a register. -/
theorem everyRegisterReadsItsResetValue : Obligations.EveryRegisterReadsItsResetValue := by
  unfold Obligations.EveryRegisterReadsItsResetValue
  iterate 44 refine List.forall_mem_cons.mpr ⟨rfl, ?_⟩
  exact List.forall_mem_nil _

/-- CTRL holds its two bits as a sum (R59). -/
theorem ctrlWord_eq_add (c : Settings) :
    ctrlWord c = (if c.acceptBadCrc then 2#32 else 0#32) + (if c.validateCrc then 1#32 else 0#32) := by
  unfold ctrlWord
  cases c.acceptBadCrc <;> cases c.validateCrc <;> decide

/-- Settles O13: each read by its arm; CTRL from its two bits. -/
theorem identityAndConfigurationReads : Obligations.IdentityAndConfigurationReads := by
  unfold Obligations.IdentityAndConfigurationReads
  intro s
  refine ⟨rfl, ?ctrl, rfl, rfl, rfl, rfl, rfl, rfl⟩
  case ctrl =>
    rw [← ctrlWord_eq_add]
    rfl

/-- SYNCED: the buffer starts with the four bytes of the magic (R33). -/
theorem synced_iff_startsMagic (s : State) : synced s = true ↔ startsMagic s.buf = true := by
  rw [synced, Bool.and_eq_true, decide_eq_true_iff, beq_iff_eq, ← startsMagic_iff]
  exact and_iff_right_of_imp (four_le_of_startsMagic s.buf)

theorem startsMagic_iff_exists (b : List Byte) :
    startsMagic b = true ↔ ∃ r, b = 0xFE#8 :: 0x81#8 :: 0xFF#8 :: 0x56#8 :: r := by
  rw [startsMagic_iff]
  constructor
  · intro h
    refine ⟨b.drop 4, ?_⟩
    calc b = b.take 4 ++ b.drop 4 := (List.take_append_drop 4 b).symm
      _ = Config.magicBytes ++ b.drop 4 := by rw [h]
  · rintro ⟨r, rfl⟩
    rfl

/-- STATUS bit by bit (R61). -/
theorem statusWord_getLsbD (s : State) (n : Nat) :
    (statusWord s).getLsbD n =
      ((decide (n = 0) && synced s) || (decide (n = 1) && filterValid s) || (decide (n = 2) && outAvail s) ||
        (decide (n = 3) && outFull s) || (decide (n = 8) && s.seen.badHeader) || (decide (n = 9) && s.seen.crcMismatch) ||
        (decide (n = 10) && s.seen.overflow) || (decide (n = 11) && s.seen.busError)) := by
  simp (disch := decide) only [statusWord, BitVec.getLsbD_or, flagBit_getLsbD]

/-- Settles O14: the word bit by bit, and what each derived signal says of the state. -/
theorem statusReadsDerivedAndStickyBits : Obligations.StatusReadsDerivedAndStickyBits := by
  unfold Obligations.StatusReadsDerivedAndStickyBits
  intro s
  refine ⟨statusWord s, rfl, ?synced, ?filterValid, ?outAvail, ?outFull, ?badHeader, ?crcMismatch, ?overflow, ?busError,
    fun n hn => ?reserved⟩
  all_goals rw [statusWord_getLsbD]
  case synced => simpa using (synced_iff_startsMagic s).trans (startsMagic_iff_exists s.buf)
  case filterValid => simp [filterValid, Option.isSome_iff_ne_none]
  case outAvail => simp [outAvail, List.length_pos_iff]
  case outFull => simp [outFull]
  case reserved =>
    obtain ⟨h0, h1, h2, h3, h8, h9, h10, h11⟩ :
        n ≠ 0 ∧ n ≠ 1 ∧ n ≠ 2 ∧ n ≠ 3 ∧ n ≠ 8 ∧ n ≠ 9 ∧ n ≠ 10 ∧ n ≠ 11 := by omega
    simp [h0, h1, h2, h3, h8, h9, h10, h11]
  all_goals simp

/-- SYNCED tells the two halves of the quiescent condition apart (R114). -/
theorem synced_of_quiescent {s : State} (h : Quiescent s.buf) :
    (s.buf.length ≤ 3 ∧ synced s = false) ∨ (4 ≤ s.buf.length ∧ s.buf.length ≤ 39 ∧ synced s = true) := by
  have hsynced : synced s = true ↔ findMagic s.buf = some 0 :=
    (synced_iff_startsMagic s).trans (findMagic_eq_zero_iff s.buf).symm
  obtain ⟨hnone, hlen⟩ | ⟨hzero, hlow, hhigh⟩ := h
  · refine .inl ⟨hlen, Bool.eq_false_iff.mpr fun htrue => ?_⟩
    exact nomatch hnone.symm.trans (hsynced.mp htrue)
  · exact .inr ⟨hlow, hhigh, hsynced.mpr hzero⟩

/-- Settles O15: a length below 2^32 is read exactly, and the invariant bounds the buffer's. -/
theorem lengthReads : Obligations.LengthReads := by
  unfold Obligations.LengthReads
  have hexact : ∀ n, n < 2 ^ 32 → (lengthWord n).toNat = n := fun n hn => (lengthWord_of_lt n hn).2
  refine ⟨fun s => ⟨bufLenWord s, rfl, hexact _⟩, fun s => ⟨outCountWord s, rfl, hexact _⟩, fun s hinv => ?quiescent⟩
  case quiescent =>
    have hsynced := synced_of_quiescent hinv.quiescent
    have hlen : (bufLenWord s).toNat = s.buf.length := hexact _ (by omega)
    refine ⟨bufLenWord s, rfl, hlen, ?_⟩
    rw [hlen]
    exact hsynced

/-- Settles O16: each read by its arm. -/
theorem counterErrorAndCrcReads : Obligations.CounterErrorAndCrcReads := by
  unfold Obligations.CounterErrorAndCrcReads
  intro s
  exact ⟨rfl, rfl, rfl, rfl, rfl, rfl, rfl, rfl, rfl⟩

theorem outWord_of_empty {s : State} (h : s.outq = []) (word : Record → Word) : outWord word s = 0#32 := by
  rw [outWord, h]

theorem outWord_of_cons {s : State} {r : Record} {rs : List Record} (h : s.outq = r :: rs) (word : Record → Word) :
    outWord word s = word r := by
  rw [outWord, h]

/-- A read that answers a word of the head record answers 0 where there is none (R122 to R132). -/
theorem headRead_answers {i : Instr} {word : Record → Word} (hexec : ∀ s, exec i s = readAnswer (outWord word s) s)
    (s : State) :
    (s.outq = [] → exec i s = .next { s with resp := some ⟨0#32, false⟩ }) ∧
      (∀ r rs, s.outq = r :: rs → exec i s = .next { s with resp := some ⟨word r, false⟩ }) := by
  rw [hexec]
  refine ⟨fun hempty => ?_, fun r rs hcons => ?_⟩
  · rw [outWord_of_empty hempty]
    rfl
  · rw [outWord_of_cons hcons]
    rfl

/-- Settles O17: each of the eleven reads answers its word of the head record. -/
theorem outWindowReadsTheHeadRecord : Obligations.OutWindowReadsTheHeadRecord := by
  unfold Obligations.OutWindowReadsTheHeadRecord
  iterate 11 refine List.forall_mem_cons.mpr ⟨headRead_answers fun _ => rfl, ?_⟩
  exact List.forall_mem_nil _

/-- Settles O18: each read by its arm. -/
theorem diagWindowReadsTheLastAttempt : Obligations.DiagWindowReadsTheLastAttempt := by
  unfold Obligations.DiagWindowReadsTheLastAttempt
  intro s
  exact ⟨rfl, rfl, rfl, rfl, rfl, rfl, rfl, rfl, rfl, rfl, rfl, rfl, rfl⟩

end Sys2Proof.Machine

/-! PROOF. O19, O20, O21, O25: the writes of control, status and threshold registers (spec/45_control_registers.md sections 1, 3
and 4, spec/20_memory.md R48). -/

namespace Sys2Proof.Machine

/-- Settles O19 by the arm of WR CTRL. -/
theorem writeCtrlStoresTwoBits : Obligations.WriteCtrlStoresTwoBits := by
  unfold Obligations.WriteCtrlStoresTwoBits
  intro v s
  rfl

/-- A sticky bit after a write of STATUS, as a choice (R151). -/
theorem and_not_eq_ite (k b : Bool) : (k && !b) = if b then false else k := by
  cases b <;> simp

theorem clearSticky_eq (v : Word) (k : Sticky) :
    clearSticky v k =
      ⟨if v.getLsbD 8 then false else k.badHeader, if v.getLsbD 9 then false else k.crcMismatch,
        if v.getLsbD 10 then false else k.overflow, if v.getLsbD 11 then false else k.busError⟩ := by
  simp only [clearSticky, and_not_eq_ite, bitOperand]

/-- Settles O20: the four bits, each a choice by its operand bit. -/
theorem writeStatusClearsTheBitsWrittenWithOne : Obligations.WriteStatusClearsTheBitsWrittenWithOne := by
  unfold Obligations.WriteStatusClearsTheBitsWrittenWithOne
  intro v s
  rw [← clearSticky_eq]
  rfl

/-- A pattern put together from two halves, bit by bit (R42). -/
theorem joinHalves_getLsbD (hi lo : Word) (n : Nat) :
    (joinHalves hi lo).getLsbD n = if n < 32 then lo.getLsbD n else hi.getLsbD (n - 32) := by
  exact BitVec.getLsbD_append (x := hi) (y := lo) (i := n)

@[simp] theorem lowHalf_joinHalves (hi lo : Word) : lowHalf (joinHalves hi lo) = lo := by
  apply BitVec.eq_of_getLsbD_eq
  intro n hn
  rw [lowHalf, BitVec.getLsbD_extractLsb', joinHalves_getLsbD]
  simp [hn]

@[simp] theorem highHalf_joinHalves (hi lo : Word) : highHalf (joinHalves hi lo) = hi := by
  apply BitVec.eq_of_getLsbD_eq
  intro n hn
  rw [highHalf, BitVec.getLsbD_extractLsb', joinHalves_getLsbD]
  simp [hn]

/-- A pattern is its two halves. -/
@[simp] theorem joinHalves_halves (d : Dword) : joinHalves (highHalf d) (lowHalf d) = d := by
  apply BitVec.eq_of_getLsbD_eq
  intro n hn
  rw [joinHalves_getLsbD, highHalf, lowHalf, BitVec.getLsbD_extractLsb', BitVec.getLsbD_extractLsb']
  by_cases hlow : n < 32
  · simp [hlow]
  · simp [hlow, show n - 32 < 32 by omega, show 32 + (n - 32) = n by omega]

@[simp] theorem lowHalf_withLowHalf (d : Dword) (v : Word) : lowHalf (withLowHalf d v) = v := lowHalf_joinHalves _ _

@[simp] theorem highHalf_withLowHalf (d : Dword) (v : Word) : highHalf (withLowHalf d v) = highHalf d :=
  highHalf_joinHalves _ _

@[simp] theorem lowHalf_withHighHalf (d : Dword) (v : Word) : lowHalf (withHighHalf d v) = lowHalf d :=
  lowHalf_joinHalves _ _

@[simp] theorem highHalf_withHighHalf (d : Dword) (v : Word) : highHalf (withHighHalf d v) = v := highHalf_joinHalves _ _

/-- Settles O21: each arm stores the joined pattern, whose two halves are the operand and the old half. -/
theorem writeThresholdHalfKeepsTheOther : Obligations.WriteThresholdHalfKeepsTheOther := by
  unfold Obligations.WriteThresholdHalfKeepsTheOther
  intro v s
  refine ⟨?_, ?_, ?_, ?_, ?_, ?_⟩
  · exact ⟨_, rfl, lowHalf_withLowHalf _ v, highHalf_withLowHalf _ v⟩
  · exact ⟨_, rfl, highHalf_withHighHalf _ v, lowHalf_withHighHalf _ v⟩
  · exact ⟨_, rfl, lowHalf_withLowHalf _ v, highHalf_withLowHalf _ v⟩
  · exact ⟨_, rfl, highHalf_withHighHalf _ v, lowHalf_withHighHalf _ v⟩
  · exact ⟨_, rfl, lowHalf_withLowHalf _ v, highHalf_withLowHalf _ v⟩
  · exact ⟨_, rfl, highHalf_withHighHalf _ v, lowHalf_withHighHalf _ v⟩

/-- A second write of the same half stores the pattern that is there (R48). -/
@[simp] theorem withLowHalf_withLowHalf (d : Dword) (v w : Word) : withLowHalf (withLowHalf d v) w = withLowHalf d w := by
  rw [withLowHalf, highHalf_withLowHalf, withLowHalf]

@[simp] theorem withHighHalf_withHighHalf (d : Dword) (v w : Word) :
    withHighHalf (withHighHalf d v) w = withHighHalf d w := by
  rw [withHighHalf, lowHalf_withHighHalf, withHighHalf]

/-- The two halves of a pattern, written one after the other, leave the pattern (R24, R57). -/
theorem withHighHalf_withLowHalf (d old : Dword) :
    withHighHalf (withLowHalf old (lowHalf d)) (highHalf d) = d := by
  rw [withHighHalf, lowHalf_withLowHalf, joinHalves_halves]

theorem clearSticky_clearSticky (v : Word) (k : Sticky) : clearSticky v (clearSticky v k) = clearSticky v k := by
  simp only [clearSticky, Bool.and_assoc, Bool.and_self]

/-- A value reset under a bit, and reset again under the same bit. -/
theorem ite_ite_same {α : Type} (b : Bool) (x y : α) : (if b then x else if b then x else y) = if b then x else y := by
  cases b <;> rfl

/-- Every action of CMD sets its elements to fixed values, so a second performance finds them there (R48, R60). -/
theorem commandActions_commandActions (v : Word) (s : State) :
    commandActions v (commandActions v s) = commandActions v s := by
  simp only [commandActions_eq, ite_ite_same]

/-- No action of CMD reads or writes the response. -/
theorem commandActions_answer (v w : Word) (e : Bool) (s : State) :
    commandActions v (s.answer w e) = (commandActions v s).answer w e := by
  rw [commandActions_eq, commandActions_eq]
  rfl

/-- A write of the configuration that stores what it finds the second time (R48). -/
theorem exec_twice_of_config {i : Instr} (f : Settings → Settings)
    (hexec : ∀ s, exec i s = writeAnswer { s with cfg := f s.cfg }) (hf : ∀ c, f (f c) = f c) {s t : State}
    (h : exec i s = .next t) : exec i t = .next t := by
  rw [hexec] at h
  cases h
  rw [hexec, writeAnswer, State.answer, State.answer, hf]

/-- Settles O25: each of the nine writes finds, the second time, what it stores. -/
theorem configurationAndCommandWritesAreIdempotent : Obligations.ConfigurationAndCommandWritesAreIdempotent := by
  unfold Obligations.ConfigurationAndCommandWritesAreIdempotent
  intro v s t
  refine List.forall_mem_cons.mpr ⟨?ctrl, ?_⟩
  case ctrl =>
    exact exec_twice_of_config
      (fun c => { c with validateCrc := bitOperand v 0, acceptBadCrc := bitOperand v 1 }) (fun _ => rfl) fun _ => rfl
  refine List.forall_mem_cons.mpr ⟨?status, ?_⟩
  case status =>
    intro h
    cases h
    show writeAnswer _ = _
    rw [writeAnswer, State.answer, State.answer, clearSticky_clearSticky]
  refine List.forall_mem_cons.mpr ⟨?command, ?_⟩
  case command =>
    intro h
    rw [exec_wrCmd] at h
    cases h
    rw [exec_wrCmd, commandActions_answer, commandActions_commandActions, answer_answer]
  refine List.forall_mem_cons.mpr ⟨exec_twice_of_config (fun c => { c with thrGyro := withLowHalf c.thrGyro v })
    (fun _ => rfl) fun c => by rw [withLowHalf_withLowHalf], ?_⟩
  refine List.forall_mem_cons.mpr ⟨exec_twice_of_config (fun c => { c with thrGyro := withHighHalf c.thrGyro v })
    (fun _ => rfl) fun c => by rw [withHighHalf_withHighHalf], ?_⟩
  refine List.forall_mem_cons.mpr ⟨exec_twice_of_config (fun c => { c with thrAccel := withLowHalf c.thrAccel v })
    (fun _ => rfl) fun c => by rw [withLowHalf_withLowHalf], ?_⟩
  refine List.forall_mem_cons.mpr ⟨exec_twice_of_config (fun c => { c with thrAccel := withHighHalf c.thrAccel v })
    (fun _ => rfl) fun c => by rw [withHighHalf_withHighHalf], ?_⟩
  refine List.forall_mem_cons.mpr ⟨exec_twice_of_config (fun c => { c with thrTemp := withLowHalf c.thrTemp v })
    (fun _ => rfl) fun c => by rw [withLowHalf_withLowHalf], ?_⟩
  refine List.forall_mem_cons.mpr ⟨exec_twice_of_config (fun c => { c with thrTemp := withHighHalf c.thrTemp v })
    (fun _ => rfl) fun c => by rw [withHighHalf_withHighHalf], ?_⟩
  exact List.forall_mem_nil _

end Sys2Proof.Machine

/-! PROOF. O22, O30: the pseudo-instructions WR64 and CRC (spec/30_encoding.md R57). -/

namespace Sys2Proof.Machine

/-- A run goes on from where its first step ends. -/
theorem run_succ_of_next {M : Host.Core} {s t : M.State} (h : M.step s = .next t) (k : Nat) :
    M.run (k + 1) s = M.run k t := by
  rw [Host.Core.run, h]

/-- A pending instruction is performed by the first of the steps that follow, and the others stay pending (R8, R49). -/
theorem run_issued {s t : State} {i : Instr} {is : List Instr} {rest : List HostEvent} (hwf : s.params.wf = true)
    (hpending : s.pending = issueAll (i :: is) ++ rest)
    (hexec : exec i { s with pending := issueAll is ++ rest } = .next t) (k : Nat) :
    core.run (k + 1) s = core.run k t ∧ t.params.wf = true ∧ t.pending = issueAll is ++ rest := by
  have hdecode : decode (encode i) = .ok i := decodeInvertsEncode i rfl
  have hstep : core.step s = .next t :=
    (step_of_pending_cons hwf hpending).trans ((runTransaction_of_decode_ok hdecode _).trans hexec)
  obtain ⟨hparams, hrest⟩ := (execEffect_of_exec hexec).kept
  exact ⟨run_succ_of_next hstep k, hparams ▸ hwf, hrest⟩

/-- Two pending instructions are performed by two steps. -/
theorem run_two_issued {s t u : State} {i j : Instr} {rest : List HostEvent} (hwf : s.params.wf = true)
    (hpending : s.pending = issueAll [i, j] ++ rest)
    (hfirst : exec i { s with pending := issueAll [j] ++ rest } = .next t)
    (hsecond : exec j { t with pending := rest } = .next u) : core.run 2 s = .next u := by
  obtain ⟨hrun, htwf, htpending⟩ := run_issued hwf hpending hfirst 1
  obtain ⟨hlast, -, -⟩ := run_issued (is := []) htwf htpending hsecond 0
  exact hrun.trans hlast

/-- Settles O22: the two steps store the two halves of the pattern. -/
theorem everyThresholdPatternIsKeptExactly : Obligations.EveryThresholdPatternIsKeptExactly := by
  unfold Obligations.EveryThresholdPatternIsKeptExactly
  intro d s rest hwf
  refine ⟨fun hpending => ?gyro, fun hpending => ?accel, fun hpending => ?temp⟩
  case gyro =>
    refine (run_two_issued hwf hpending rfl rfl).trans ?_
    simp only [State.answer, withHighHalf_withLowHalf]
  case accel =>
    refine (run_two_issued hwf hpending rfl rfl).trans ?_
    simp only [State.answer, withHighHalf_withLowHalf]
  case temp =>
    refine (run_two_issued hwf hpending rfl rfl).trans ?_
    simp only [State.answer, withHighHalf_withLowHalf]

/-- A byte given as an operand is the byte operand (R57, R65). -/
@[simp] theorem byteOperand_setWidth (b : Byte) : byteOperand (b.setWidth 32) = b := by
  apply BitVec.eq_of_getLsbD_eq
  intro n hn
  rw [byteOperand, BitVec.getLsbD_extractLsb', BitVec.getLsbD_setWidth]
  simp [hn, show n < 32 by omega]

/-- The bytes of the pseudo-instruction CRC, folded one step a byte (R76). -/
theorem run_crcData (bs : List Byte) (k : Nat) (is : List Instr) (rest : List HostEvent) (s : State)
    (hwf : s.params.wf = true)
    (hpending : s.pending = issueAll ((bs.map fun b => .wrCrcData (b.setWidth 32)) ++ is) ++ rest) :
    ∃ t, core.run (bs.length + k) s = core.run k t ∧ t.params.wf = true ∧ t.pending = issueAll is ++ rest ∧
      ∃ r, t = { s with crcAcc := crcFold s.crcAcc bs, pending := issueAll is ++ rest, resp := r } := by
  induction bs generalizing s with
  | nil =>
    have hrest : issueAll is ++ rest = s.pending := hpending.symm
    rw [hrest, crcFold_nil, List.length_nil, Nat.zero_add]
    exact ⟨s, rfl, hwf, rfl, s.resp, rfl⟩
  | cons b bs ih =>
    obtain ⟨hrun, htwf, htpending⟩ := run_issued hwf hpending (exec_wrCrcData _ _) (bs.length + k)
    obtain ⟨t, hr, hwf', hpending', r, ht⟩ := ih _ htwf htpending
    refine ⟨t, ?_, hwf', hpending', r, ?_⟩
    · rw [List.length_cons, Nat.add_right_comm, hrun, hr]
    · rw [ht, answer_crcAcc, byteOperand_setWidth, crcFold_cons]
      rfl

/-- CMD with bit 3 alone performs CRC_INIT alone (R60). -/
theorem commandActions_crcInit (s : State) : commandActions 0x8#32 s = { s with crcAcc := Config.crcInit } := by
  have hbits : bitOperand 0x8#32 0 = false ∧ bitOperand 0x8#32 1 = false ∧ bitOperand 0x8#32 2 = false ∧
      bitOperand 0x8#32 3 = true ∧ bitOperand 0x8#32 4 = false ∧ bitOperand 0x8#32 5 = false := by decide
  obtain ⟨h0, h1, h2, h3, h4, h5⟩ := hbits
  simp [commandActions_eq, h0, h1, h2, h3, h4, h5]

theorem exec_crcInit (s : State) :
    exec (.wrCmd 0x8#32) s = .next (State.answer { s with crcAcc := Config.crcInit } 0#32 false) := by
  rw [exec_wrCmd, commandActions_crcInit]

/-- Settles O30: CRC_INIT, one fold a byte, and the read of the accumulator. -/
theorem crcPseudoInstructionAnswersTheCrc : Obligations.CrcPseudoInstructionAnswersTheCrc := by
  unfold Obligations.CrcPseudoInstructionAnswersTheCrc
  intro bs s rest hwf hpending
  obtain ⟨hinit, htwf, htpending⟩ := run_issued hwf hpending (exec_crcInit _) (bs.length + 1)
  obtain ⟨t, hfold, hwf', hpending', r, rfl⟩ := run_crcData bs 1 [.rdCrcValue] rest _ htwf htpending
  obtain ⟨hread, -, -⟩ := run_issued hwf' hpending' rfl 0
  exact hinit.trans (hfold.trans hread)

end Sys2Proof.Machine

/-! PROOF. O28, O29: a byte is folded by serial division, and a frame that carries its CRC folds to zero (spec/40_crc_engine.md
R71, R74). -/

namespace Sys2Proof.Machine

/-- One round of the serial division: the accumulator's top bit against the next bit of the message (R71). -/
def serialRound (acc : Word) (bit : Bool) : Word :=
  if (acc.getLsbD 31 != bit) = true then (acc <<< 1) ^^^ Config.crcPoly else acc <<< 1

/-- A shift round on an accumulator to which the message is already added is a serial round on the accumulator without it: the
message moves up by one bit, and its top bit takes part in the choice. -/
theorem crcShift_xor (acc x : Word) : crcShift (acc ^^^ x) = serialRound acc (x.getLsbD 31) ^^^ (x <<< 1) := by
  have htop : (acc ^^^ x).getLsbD 31 = (acc.getLsbD 31 != x.getLsbD 31) := BitVec.getLsbD_xor
  rw [crcShift, serialRound, htop, BitVec.shiftLeft_xor_distrib]
  split
  · rw [BitVec.xor_assoc, BitVec.xor_assoc, BitVec.xor_comm (x <<< 1)]
  · rfl

/-- `n` shift rounds on a byte standing `n` bits from the top are `n` serial rounds on its bits `n - 1` to 0. -/
theorem crcRounds_xor_byte (n : Nat) (hn : n ≤ 8) (acc : Word) (b : Byte) :
    crcRounds n (acc ^^^ (b.setWidth 32 <<< (32 - n))) =
      (List.range n).reverse.foldl (fun a i => serialRound a (b.getLsbD i)) acc := by
  induction n generalizing acc with
  | zero =>
    have hout : b.setWidth 32 <<< (32 - 0) = 0#32 := BitVec.shiftLeft_eq_zero (by decide)
    rw [hout, BitVec.xor_zero]
    rfl
  | succ n ih =>
    have hbit : (b.setWidth 32 <<< (32 - (n + 1))).getLsbD 31 = b.getLsbD n := by
      rw [BitVec.getLsbD_shiftLeft, BitVec.getLsbD_setWidth, show 31 - (32 - (n + 1)) = n by omega]
      simp only [show ¬ 31 < 32 - (n + 1) by omega, show n < 32 by omega]
      simp
    have hmove : b.setWidth 32 <<< (32 - (n + 1)) <<< 1 = b.setWidth 32 <<< (32 - n) := by
      rw [← BitVec.shiftLeft_add, show 32 - (n + 1) + 1 = 32 - n by omega]
    rw [crcRounds, crcShift_xor, hbit, hmove, ih (by omega), List.range_succ, List.reverse_append]
    rfl

/-- Settles O28: eight shift rounds on the byte added at the top. -/
theorem crcByteIsSerialDivisionMsbFirst : Obligations.CrcByteIsSerialDivisionMsbFirst := by
  unfold Obligations.CrcByteIsSerialDivisionMsbFirst
  intro acc b
  exact crcRounds_xor_byte 8 (Nat.le_refl 8) acc b

/-- Rounds whose top bits are clear only shift. -/
theorem crcRounds_of_top_clear (n : Nat) (acc : Word) (h : ∀ i, 32 - n ≤ i → acc.getLsbD i = false) :
    crcRounds n acc = acc <<< n := by
  induction n generalizing acc with
  | zero => exact (BitVec.shiftLeft_zero acc).symm
  | succ n ih =>
    have hnext : ∀ i, 32 - n ≤ i → (acc <<< 1).getLsbD i = false := by
      intro i hi
      rw [BitVec.getLsbD_shiftLeft]
      by_cases hzero : i = 0
      · simp [hzero]
      · simp [h (i - 1) (by omega)]
    rw [crcRounds, crcShift_of_top_clear acc (h 31 (by omega)), ih _ hnext, ← BitVec.shiftLeft_add, Nat.add_comm]

/-- A byte that equals the accumulator's top byte takes it out (R74). -/
theorem crcByte_top_byte (acc : Word) : crcByte acc (acc.extractLsb' 24 8) = acc <<< 8 := by
  have hclear : ∀ i, 32 - 8 ≤ i → (acc ^^^ ((acc.extractLsb' 24 8).setWidth 32 <<< 24)).getLsbD i = false := by
    intro i hi
    rw [BitVec.getLsbD_xor, BitVec.getLsbD_shiftLeft, BitVec.getLsbD_setWidth, BitVec.getLsbD_extractLsb']
    by_cases hword : i < 32
    · simp [hword, show ¬ i < 24 by omega, show i - 24 < 8 by omega, show i - 24 < 32 by omega,
        show 24 + (i - 24) = i by omega]
    · simp [hword, BitVec.getLsbD_of_ge acc i (by omega)]
  have hout : (acc.extractLsb' 24 8).setWidth 32 <<< 24 <<< 8 = 0#32 := by
    rw [← BitVec.shiftLeft_add]
    exact BitVec.shiftLeft_eq_zero (by decide)
  rw [crcByte, crcRounds_of_top_clear 8 _ hclear, BitVec.shiftLeft_xor_distrib, hout, BitVec.xor_zero]

/-- A byte of a word is the top byte of the word shifted up. -/
theorem extractLsb'_eq_top_byte (w : Word) {i k : Nat} (h : i + k = 24) :
    w.extractLsb' i 8 = (w <<< k).extractLsb' 24 8 := by
  apply BitVec.eq_of_getLsbD_eq
  intro n hn
  rw [BitVec.getLsbD_extractLsb', BitVec.getLsbD_extractLsb', BitVec.getLsbD_shiftLeft]
  simp [hn, show 24 + n < 32 by omega, show ¬ 24 + n < k by omega, show 24 + n - k = i + n by omega]

/-- An accumulator folded over its own four bytes is zero (R74). -/
theorem crcFold_wireBytes_self (acc : Word) : crcFold acc (wireBytes acc) = 0#32 := by
  simp only [wireBytes, crcFold_cons, crcFold_nil]
  rw [crcByte_top_byte, extractLsb'_eq_top_byte acc (show 16 + 8 = 24 from rfl), crcByte_top_byte,
    extractLsb'_eq_top_byte acc (show 8 + 16 = 24 from rfl), ← BitVec.shiftLeft_add, crcByte_top_byte,
    extractLsb'_eq_top_byte acc (show 0 + 24 = 24 from rfl), ← BitVec.shiftLeft_add, crcByte_top_byte,
    ← BitVec.shiftLeft_add]
  exact BitVec.shiftLeft_eq_zero (by decide)

/-- A word's bytes, joined again (R40). -/
@[simp] theorem be32_wireBytes (w : Word) : be32 (wireBytes w) 0 = w := by
  apply BitVec.eq_of_getLsbD_eq
  intro n hn
  refine (four_bytes_getLsbD (w.extractLsb' 24 8) (w.extractLsb' 16 8) (w.extractLsb' 8 8) (w.extractLsb' 0 8) n).trans ?_
  simp only [BitVec.getLsbD_extractLsb']
  split_ifs with h8 h16 h24
  · simp [h8]
  · simp [show n - 8 < 8 by omega, show 8 + (n - 8) = n by omega]
  · simp [show n - 16 < 8 by omega, show 16 + (n - 16) = n by omega]
  · simp [show n - 24 < 8 by omega, show 24 + (n - 24) = n by omega]

/-- Four bytes, joined and taken apart again (R40). -/
theorem wireBytes_be32 (a b c d : Byte) : wireBytes (be32 [a, b, c, d] 0) = [a, b, c, d] := by
  obtain ⟨h0, h1, h2, h3⟩ := four_bytes_inj _ _ _ _ a b c d (be32_wireBytes (be32 [a, b, c, d] 0))
  simp only [wireBytes, List.cons.injEq]
  exact ⟨h0, h1, h2, h3, trivial⟩

/-- A sequence of four bytes is the wire form of its word. -/
theorem eq_wireBytes_of_length {b : List Byte} (h : b.length = 4) : b = wireBytes (be32 b 0) := by
  match b, h with
  | [a, b, c, d], _ => exact (wireBytes_be32 a b c d).symm

theorem byteAt_drop (f : List Byte) (n i : Nat) : byteAt (f.drop n) i = byteAt f (n + i) := by
  simp only [byteAt, List.getD_eq_getElem?_getD, List.getElem?_drop]

theorem be32_drop (f : List Byte) (n i : Nat) : be32 (f.drop n) i = be32 f (n + i) := by
  simp only [be32, byteAt_drop, Nat.add_assoc]

/-- A word that starts where the second sequence does. -/
theorem be32_append_length (a b : List Byte) : be32 (a ++ b) a.length = be32 b 0 := by
  have hdrop := be32_drop (a ++ b) a.length 0
  rw [List.drop_left, Nat.add_zero] at hdrop
  exact hdrop.symm

/-- Settles O29: after 36 bytes the accumulator is the CRC, and the last four bytes are its own. -/
theorem frameWithItsCrcFoldsToZero : Obligations.FrameWithItsCrcFoldsToZero := by
  unfold Obligations.FrameWithItsCrcFoldsToZero
  intro f hlen hcrc
  have htail : f.drop 36 = wireBytes (crc32 (f.take 36)) := by
    rw [eq_wireBytes_of_length (b := f.drop 36) (by simp [hlen]), be32_drop, Nat.add_zero, hcrc]
  calc crc32 f = crc32 (f.take 36 ++ f.drop 36) := by rw [List.take_append_drop]
    _ = crcFold (crc32 (f.take 36)) (f.drop 36) := crcFold_append _ _ _
    _ = 0#32 := by rw [htail, crcFold_wireBytes_self]

end Sys2Proof.Machine

/-! PROOF. O33, O35: the record that DECODE makes of a frame (spec/30_encoding.md section 6, spec/42_decoder.md sections 1 and
3). -/

namespace Sys2Proof.Machine

/-- Whatever the result, its record is that of the first 40 bytes; HEADER_OK is set exactly with the magic, and CRC_MATCH only
with CRC_CHECKED (R69, R85). -/
theorem exists_recordOf_of_decodeFrame {b : List Byte} {vc : Bool} {w : Record} {crc : Word}
    (h : decodeFrame b vc = .ok w crc ∨ decodeFrame b vc = .crcMismatch w crc ∨ decodeFrame b vc = .badHeader w crc) :
    ∃ checked isMatch hdrOk, w = recordOf (b.take 40) checked isMatch hdrOk ∧
      (hdrOk = true ↔ be32 (b.take 40) 0 = Config.magic) ∧ (isMatch = true → checked = true) := by
  obtain ⟨-, hd⟩ | ⟨-, hbad, hd⟩ | ⟨-, hmagic, -, -, hd⟩ | ⟨-, hmagic, -, -, hd⟩ | ⟨-, hmagic, -, hd⟩ :=
    decodeFrame_cases b vc
  all_goals
    rw [hd] at h
    simp only [DecodeResult.ok.injEq, DecodeResult.crcMismatch.injEq, DecodeResult.badHeader.injEq, reduceCtorEq,
      or_false, false_or] at h
  all_goals obtain ⟨rfl, -⟩ := h
  · exact ⟨false, false, false, rfl, by simp [hbad], id⟩
  · exact ⟨true, false, true, rfl, by simp [hmagic], by simp⟩
  · exact ⟨true, true, true, rfl, by simp [hmagic], id⟩
  · exact ⟨false, false, true, rfl, by simp [hmagic], by simp⟩

/-- W8 holds the status byte in bits 31:24 (R43, R69). -/
theorem recordOf_statusBit (f : List Byte) (checked isMatch hdrOk : Bool) {n : Nat} (hn : n < 8) :
    (recordOf f checked isMatch hdrOk).w8.getLsbD (24 + n) = (byteAt f 32).getLsbD n := by
  rw [← be32_top_byte f 32, BitVec.getLsbD_extractLsb', decide_eq_true hn, Bool.true_and]
  rfl

/-- FLAGS bit 10 is HEADER_OK. -/
theorem recordOf_headerOk (f : List Byte) (checked isMatch hdrOk : Bool) :
    (recordOf f checked isMatch hdrOk).w10.getLsbD 10 = hdrOk := by
  simp only [recordOf, flagsWord_getLsbD, validFlags_getLsbD]
  simp

/-- The reserved bits of FLAGS are zero (R70). -/
theorem recordOf_flagsReserved (f : List Byte) (checked isMatch hdrOk : Bool) {n : Nat} (hn : n = 3 ∨ n = 7 ∨ 11 ≤ n) :
    (recordOf f checked isMatch hdrOk).w10.getLsbD n = false := by
  obtain ⟨h0, h1, h2, h4, h5, h6, h8, h9, h10⟩ :
      n ≠ 0 ∧ n ≠ 1 ∧ n ≠ 2 ∧ n ≠ 4 ∧ n ≠ 5 ∧ n ≠ 6 ∧ n ≠ 8 ∧ n ≠ 9 ∧ n ≠ 10 := by omega
  simp only [recordOf, flagsWord_getLsbD, validFlags_getLsbD]
  simp [h0, h1, h2, h4, h5, h6, h8, h9, h10]

/-- A validity flag is its status bit inverted, read off W8 (R70, R90). -/
theorem recordOf_validFlag (f : List Byte) (checked isMatch hdrOk : Bool) {n : Nat}
    (hn : n = 0 ∨ n = 1 ∨ n = 2 ∨ n = 4 ∨ n = 5 ∨ n = 6) :
    (recordOf f checked isMatch hdrOk).w10.getLsbD n = !(recordOf f checked isMatch hdrOk).w8.getLsbD (24 + n) := by
  obtain ⟨hlt, h8, h9, h10⟩ : n < 8 ∧ n ≠ 8 ∧ n ≠ 9 ∧ n ≠ 10 := by omega
  rw [recordOf_statusBit f checked isMatch hdrOk hlt]
  simp only [recordOf, flagsWord_getLsbD, validFlags_getLsbD, if_pos hn]
  simp [h8, h9, h10]

/-- Settles O33: every result's record is recordOf of the first 40 bytes, read here word by word and flag by flag. -/
theorem decodedRecordIsTheFramesWords : Obligations.DecodedRecordIsTheFramesWords := by
  unfold Obligations.DecodedRecordIsTheFramesWords
  intro b vc w crc h
  obtain ⟨checked, isMatch, hdrOk, rfl, hheader, -⟩ := exists_recordOf_of_decodeFrame h
  refine ⟨be32_take b 40 0 (by decide), be32_take b 40 4 (by decide), be32_take b 40 8 (by decide),
    be32_take b 40 12 (by decide), be32_take b 40 16 (by decide), be32_take b 40 20 (by decide),
    be32_take b 40 24 (by decide), be32_take b 40 28 (by decide), be32_take b 40 32 (by decide),
    be32_take b 40 36 (by decide), fun n hn => recordOf_validFlag _ _ _ _ hn, fun n hn => recordOf_flagsReserved _ _ _ _ hn,
    ?headerOk⟩
  case headerOk =>
    rw [recordOf_headerOk]
    exact hheader

theorem frameBody_length (x : FrameFields) : (frameBody x).length = 36 := rfl

theorem encodeFrame_length (x : FrameFields) : (encodeFrame x).length = 40 := rfl

theorem encodeFrame_take_magic (x : FrameFields) : (encodeFrame x).take 4 = Config.magicBytes := rfl

theorem encodeFrame_take_body (x : FrameFields) : (encodeFrame x).take 36 = frameBody x :=
  List.take_left' (frameBody_length x)

/-- An encoded frame carries the CRC of its first 36 bytes (R67). -/
theorem encodeFrame_crc (x : FrameFields) : crc32 ((encodeFrame x).take 36) = be32 (encodeFrame x) 36 := by
  have hcrc : be32 (encodeFrame x) 36 = be32 (wireBytes (crc32 (frameBody x))) 0 :=
    be32_append_length (frameBody x) (wireBytes (crc32 (frameBody x)))
  rw [encodeFrame_take_body, hcrc, be32_wireBytes]

/-- An encoded frame passes the checks of DECODE, whether its CRC is among them or not (R94). -/
theorem decodeFrame_encodeFrame (x : FrameFields) (vc : Bool) :
    ∃ crc, decodeFrame (encodeFrame x) vc = .ok (recordOf (encodeFrame x) vc vc true) crc := by
  have hwhole : (encodeFrame x).take 40 = encodeFrame x := List.take_of_length_le (encodeFrame_length x).le
  rw [decodeFrame_eq_ite, if_neg (by rw [encodeFrame_length]; decide),
    if_neg (not_not_intro (encodeFrame_take_magic x)), hwhole]
  cases vc with
  | false => exact ⟨_, rfl⟩
  | true =>
    rw [if_neg (by decide), if_pos (encodeFrame_crc x)]
    exact ⟨_, rfl⟩

@[simp] theorem be32_wireBytes_append (w : Word) (r : List Byte) : be32 (wireBytes w ++ r) 0 = w :=
  be32_wireBytes w

@[simp] theorem be32_wireBytes_append_add_four (w : Word) (r : List Byte) (i : Nat) :
    be32 (wireBytes w ++ r) (i + 4) = be32 r i := by
  rw [Nat.add_comm, ← be32_drop, List.drop_left' (show (wireBytes w).length = 4 from rfl)]

/-- The fields of a frame before the status byte are its words 1 to 7 (R67, R69). -/
theorem recordOf_encodeFrame_words (x : FrameFields) (checked isMatch hdrOk : Bool) :
    let w := recordOf (encodeFrame x) checked isMatch hdrOk
    w.w1 = x.gyroX ∧ w.w2 = x.gyroY ∧ w.w3 = x.gyroZ ∧ w.w4 = x.accelX ∧ w.w5 = x.accelY ∧ w.w6 = x.accelZ ∧
      w.w7 = x.timestamp := by
  simp only [recordOf, encodeFrame, frameBody, List.append_assoc, be32_wireBytes_append_add_four, be32_wireBytes_append,
    and_self]

/-- W8 of an encoded frame: status, sequence and temperature side by side (R67, R69). -/
theorem recordOf_encodeFrame_w8 (x : FrameFields) (checked isMatch hdrOk : Bool) :
    (recordOf (encodeFrame x) checked isMatch hdrOk).w8 =
      (x.status ++ x.sequence ++ x.temperature.extractLsb' 8 8 ++ x.temperature.extractLsb' 0 8 :
        BitVec (8 + 8 + 8 + 8)) := by
  simp only [recordOf, encodeFrame, frameBody, List.append_assoc, be32_wireBytes_append_add_four]
  rfl

/-- Settles O35: the decode is OK, and each word of the record is a field's four bytes joined again. -/
theorem encodedFrameDecodesToItsFields : Obligations.EncodedFrameDecodesToItsFields := by
  unfold Obligations.EncodedFrameDecodesToItsFields
  intro x vc
  obtain ⟨crc, hdecode⟩ := decodeFrame_encodeFrame x vc
  obtain ⟨h1, h2, h3, h4, h5, h6, h7⟩ := recordOf_encodeFrame_words x vc vc true
  refine ⟨_, crc, hdecode, h1, h2, h3, h4, h5, h6, h7, ?status, ?sequence, ?temperature⟩
  all_goals
    rw [recordOf_encodeFrame_w8]
    apply BitVec.eq_of_getLsbD_eq
    intro n hn
    rw [BitVec.getLsbD_extractLsb', four_bytes_getLsbD]
  case status => simp [hn, show ¬ 24 + n < 8 by omega, show ¬ 24 + n < 16 by omega]
  case sequence => simp [hn, show ¬ 16 + n < 8 by omega, show 16 + n < 24 by omega]
  case temperature =>
    by_cases hlow : n < 8
    · simp [hn, hlow]
    · simp [hn, hlow, show n - 8 < 8 by omega, show 8 + (n - 8) = n by omega]

end Sys2Proof.Machine

/-! SUPPORT. A decode attempt has one of six effects, and what every discard and every attempt keeps, a whole PROCESS keeps
(spec/44_pipeline_and_output.md R109 to R113). -/

namespace Sys2Proof.Machine

/-- CNT_FRAMES_OK counts a frame (R109). -/
def countOk (s : State) : State :=
  { s with cnt := { s.cnt with framesOk := s.cnt.framesOk + 1#32 } }

/-- CRC_MISMATCH is counted and recorded (R179). -/
def countMismatch (s : State) : State :=
  { s with
    cnt := { s.cnt with crcMismatch := s.cnt.crcMismatch + 1#32 }
    seen := { s.seen with crcMismatch := true } }

/-- BAD_HEADER is counted and recorded (R178). -/
def countBadHeader (s : State) : State :=
  { s with
    cnt := { s.cnt with badHeader := s.cnt.badHeader + 1#32 }
    seen := { s.seen with badHeader := true } }

/-- The frame is consumed, its record emitted and described by the diagnostic state (R103, R110). -/
def emitFrame (code : Word) (w : Record) (crc : Word) (s : State) : State :=
  { s with
    buf := s.buf.drop 40
    outq := s.outq ++ [w]
    filt := some (snap w)
    diag := ⟨w, code, crc⟩
    cnt := { s.cnt with emitted := s.cnt.emitted + 1#32 } }

/-- The frame is consumed, its record suppressed and described by the diagnostic state (R103, R110). -/
def suppressFrame (code : Word) (w : Record) (crc : Word) (s : State) : State :=
  { s with
    buf := s.buf.drop 40
    diag := ⟨w, code, crc⟩
    cnt := { s.cnt with suppressed := s.cnt.suppressed + 1#32 } }

/-- The frame is dropped by one byte and described by the diagnostic state (R111). -/
def dropFrame (code : Word) (w : Record) (crc : Word) (s : State) : State :=
  { s with
    buf := s.buf.drop 1
    diag := ⟨w, code, crc⟩
    cnt := { s.cnt with discarded := s.cnt.discarded + 1#32 } }

theorem decodeAttempt_of_ok_emitted {s : State} {w : Record} {crc : Word}
    (hdecode : decodeFrame (s.buf.take 40) s.cfg.validateCrc = .ok w crc)
    (hfilter : filterDecision s.cfg s.filt w = .emitted) :
    decodeAttempt s = emitFrame 0x101#32 w crc (countOk s) := by
  simp only [decodeAttempt, Config.frameLen, hdecode, onOk, passToFilter, recordAttempt_cfg, recordAttempt_filt, hfilter]
  rfl

theorem decodeAttempt_of_ok_suppressed {s : State} {w : Record} {crc : Word}
    (hdecode : decodeFrame (s.buf.take 40) s.cfg.validateCrc = .ok w crc)
    (hfilter : filterDecision s.cfg s.filt w = .suppressed) :
    decodeAttempt s = suppressFrame 0x201#32 w crc (countOk s) := by
  simp only [decodeAttempt, Config.frameLen, hdecode, onOk, passToFilter, recordAttempt_cfg, recordAttempt_filt, hfilter]
  rfl

theorem decodeAttempt_of_mismatch_emitted {s : State} {w : Record} {crc : Word}
    (hdecode : decodeFrame (s.buf.take 40) s.cfg.validateCrc = .crcMismatch w crc)
    (haccept : s.cfg.acceptBadCrc = true) (hfilter : filterDecision s.cfg s.filt w = .emitted) :
    decodeAttempt s = emitFrame 0x104#32 w crc (countMismatch s) := by
  simp only [decodeAttempt, Config.frameLen, hdecode, onCrcMismatch, passToFilter, recordAttempt_cfg, recordAttempt_filt,
    haccept, if_true, hfilter]
  rfl

theorem decodeAttempt_of_mismatch_suppressed {s : State} {w : Record} {crc : Word}
    (hdecode : decodeFrame (s.buf.take 40) s.cfg.validateCrc = .crcMismatch w crc)
    (haccept : s.cfg.acceptBadCrc = true) (hfilter : filterDecision s.cfg s.filt w = .suppressed) :
    decodeAttempt s = suppressFrame 0x204#32 w crc (countMismatch s) := by
  simp only [decodeAttempt, Config.frameLen, hdecode, onCrcMismatch, passToFilter, recordAttempt_cfg, recordAttempt_filt,
    haccept, if_true, hfilter]
  rfl

theorem decodeAttempt_of_mismatch_dropped {s : State} {w : Record} {crc : Word}
    (hdecode : decodeFrame (s.buf.take 40) s.cfg.validateCrc = .crcMismatch w crc)
    (haccept : s.cfg.acceptBadCrc = false) : decodeAttempt s = dropFrame 0x003#32 w crc (countMismatch s) := by
  simp only [decodeAttempt, Config.frameLen, hdecode, onCrcMismatch, recordAttempt_cfg, haccept, Bool.false_eq_true,
    if_false]
  rfl

theorem decodeAttempt_of_badHeader {s : State} {w : Record} {crc : Word}
    (hdecode : decodeFrame (s.buf.take 40) s.cfg.validateCrc = .badHeader w crc) :
    decodeAttempt s = dropFrame 0x002#32 w crc (countBadHeader s) := by
  simp only [decodeAttempt, Config.frameLen, hdecode]
  rfl

/-- The effects of a decode attempt, by its result and what the policy and the filter make of it (R109 to R112). -/
inductive AttemptEffect (s : State) : State → Prop
  | okEmitted {w : Record} {crc : Word} (hdecode : decodeFrame (s.buf.take 40) s.cfg.validateCrc = .ok w crc)
      (hfilter : filterDecision s.cfg s.filt w = .emitted) :
      AttemptEffect s (emitFrame 0x101#32 w crc (countOk s))
  | okSuppressed {w : Record} {crc : Word} (hdecode : decodeFrame (s.buf.take 40) s.cfg.validateCrc = .ok w crc)
      (hfilter : filterDecision s.cfg s.filt w = .suppressed) :
      AttemptEffect s (suppressFrame 0x201#32 w crc (countOk s))
  | mismatchEmitted {w : Record} {crc : Word}
      (hdecode : decodeFrame (s.buf.take 40) s.cfg.validateCrc = .crcMismatch w crc)
      (haccept : s.cfg.acceptBadCrc = true) (hfilter : filterDecision s.cfg s.filt w = .emitted) :
      AttemptEffect s (emitFrame 0x104#32 w crc (countMismatch s))
  | mismatchSuppressed {w : Record} {crc : Word}
      (hdecode : decodeFrame (s.buf.take 40) s.cfg.validateCrc = .crcMismatch w crc)
      (haccept : s.cfg.acceptBadCrc = true) (hfilter : filterDecision s.cfg s.filt w = .suppressed) :
      AttemptEffect s (suppressFrame 0x204#32 w crc (countMismatch s))
  | mismatchDropped {w : Record} {crc : Word}
      (hdecode : decodeFrame (s.buf.take 40) s.cfg.validateCrc = .crcMismatch w crc)
      (haccept : s.cfg.acceptBadCrc = false) : AttemptEffect s (dropFrame 0x003#32 w crc (countMismatch s))
  | badHeader {w : Record} {crc : Word}
      (hdecode : decodeFrame (s.buf.take 40) s.cfg.validateCrc = .badHeader w crc) :
      AttemptEffect s (dropFrame 0x002#32 w crc (countBadHeader s))

theorem attemptEffect_decodeAttempt {s : State} (hlen : 40 ≤ s.buf.length) : AttemptEffect s (decodeAttempt s) := by
  have htake : 40 ≤ (s.buf.take 40).length := by simp [hlen]
  cases hdecode : decodeFrame (s.buf.take 40) s.cfg.validateCrc with
  | incomplete => exact absurd hdecode (decodeFrame_ne_incomplete _ _ htake)
  | ok w crc =>
    cases hfilter : filterDecision s.cfg s.filt w with
    | emitted => exact decodeAttempt_of_ok_emitted hdecode hfilter ▸ .okEmitted hdecode hfilter
    | suppressed => exact decodeAttempt_of_ok_suppressed hdecode hfilter ▸ .okSuppressed hdecode hfilter
  | badHeader w crc => exact decodeAttempt_of_badHeader hdecode ▸ .badHeader hdecode
  | crcMismatch w crc =>
    cases haccept : s.cfg.acceptBadCrc with
    | false => exact decodeAttempt_of_mismatch_dropped hdecode haccept ▸ .mismatchDropped hdecode haccept
    | true =>
      cases hfilter : filterDecision s.cfg s.filt w with
      | emitted =>
        exact decodeAttempt_of_mismatch_emitted hdecode haccept hfilter ▸ .mismatchEmitted hdecode haccept hfilter
      | suppressed =>
        exact decodeAttempt_of_mismatch_suppressed hdecode haccept hfilter ▸ .mismatchSuppressed hdecode haccept hfilter

/-- What an attempt's effect says is what the attempt does. -/
theorem AttemptEffect.eq {s t : State} (h : AttemptEffect s t) : decodeAttempt s = t := by
  cases h with
  | okEmitted hdecode hfilter => exact decodeAttempt_of_ok_emitted hdecode hfilter
  | okSuppressed hdecode hfilter => exact decodeAttempt_of_ok_suppressed hdecode hfilter
  | mismatchEmitted hdecode haccept hfilter => exact decodeAttempt_of_mismatch_emitted hdecode haccept hfilter
  | mismatchSuppressed hdecode haccept hfilter => exact decodeAttempt_of_mismatch_suppressed hdecode haccept hfilter
  | mismatchDropped hdecode haccept => exact decodeAttempt_of_mismatch_dropped hdecode haccept
  | badHeader hdecode => exact decodeAttempt_of_badHeader hdecode

theorem onePass_of_none {s : State} (h : findMagic s.buf = none) : onePass s = .stop (keepTail s) := by
  rw [onePass, h]

theorem onePass_of_incomplete {s : State} {k : Nat} (h : findMagic s.buf = some k) (hlen : s.buf.length - k < 40) :
    onePass s = .stop (discardBytes k s) := by
  simp [onePass, h, Config.frameLen, hlen]

theorem onePass_of_complete {s : State} {k : Nat} (h : findMagic s.buf = some k) (hlen : 40 ≤ s.buf.length - k) :
    onePass s = .again (decodeAttempt (discardBytes k s)) := by
  simp [onePass, h, Config.frameLen, Nat.not_lt.mpr hlen]

/-- A transitive relation that holds across every discard and every decode attempt of the loop holds across PROCESS. An attempt
is made on 40 bytes that start with the magic (R80, R109). -/
theorem runPipeline_keeps (r : State → State → Prop) (trans : ∀ s t u, r s t → r t u → r s u)
    (discard : ∀ s k, k ≤ s.buf.length → r s (discardBytes k s))
    (attempt : ∀ s t, 40 ≤ s.buf.length → startsMagic s.buf = true → AttemptEffect s t → r s t) (s : State) :
    r s (runPipeline s) := by
  apply runPipeline_induction r
  case stop =>
    intro s t hpass
    obtain ⟨-, e⟩ | ⟨k, hk, -, e⟩ | ⟨k, -, -, e⟩ := onePass_cases s
    all_goals rw [e] at hpass
    · cases hpass
      exact discard s _ (Nat.sub_le _ _)
    · cases hpass
      exact discard s k (by have := findMagic_add_four_le _ _ hk; omega)
    · cases hpass
  case again =>
    intro s t u hpass hrest
    obtain ⟨-, e⟩ | ⟨k, -, -, e⟩ | ⟨k, hk, hlen, e⟩ := onePass_cases s
    all_goals rw [e] at hpass
    · cases hpass
    · cases hpass
    · cases hpass
      have hlen' : 40 ≤ (discardBytes k s).buf.length := by simpa using hlen
      have hdiscard : r s (discardBytes k s) := discard s k (by omega)
      have hattempt := attempt _ _ hlen' (startsMagic_drop_of_findMagic _ _ hk) (attemptEffect_decodeAttempt hlen')
      exact trans _ _ _ hdiscard (trans _ _ _ hattempt hrest)

/-- The same for an accepted push: the overflow rule, the append, and PROCESS (R182). -/
theorem pushByte_keeps (r : State → State → Prop) (trans : ∀ s t u, r s t → r t u → r s u) (b : Byte)
    (append : ∀ s, r s (appendByte b s)) (discard : ∀ s k, k ≤ s.buf.length → r s (discardBytes k s))
    (attempt : ∀ s t, 40 ≤ s.buf.length → startsMagic s.buf = true → AttemptEffect s t → r s t) (s : State)
    (drop : r s (dropOldestIfFull s)) : r s (pushByte b s) :=
  trans _ _ _ drop (trans _ _ _ (append _) (runPipeline_keeps r trans discard attempt _))

/-- What PROCESS leaves is quiescent, whatever was in the buffer (R114). -/
theorem quiescent_runPipeline (s : State) : Quiescent (runPipeline s).buf := by
  apply runPipeline_induction (fun _ t => Quiescent t.buf)
  case stop =>
    intro s t hpass
    obtain ⟨hnone, e⟩ | ⟨k, hk, hlen, e⟩ | ⟨k, -, -, e⟩ := onePass_cases s
    all_goals rw [e] at hpass
    · cases hpass
      exact .inl ⟨findMagic_keepTail s hnone, by rw [keepTail_buf_length]; omega⟩
    · cases hpass
      have hfour := findMagic_add_four_le _ _ hk
      have hbuf : (s.buf.drop k).length = s.buf.length - k := List.length_drop
      exact .inr ⟨findMagic_drop _ _ hk, by rw [discardBytes_buf]; omega, by rw [discardBytes_buf]; omega⟩
    · cases hpass
  case again => exact fun _ _ _ _ h => h

/-- An attempt on a buffer that starts with the magic does not find a bad header (R96). -/
theorem decodeFrame_ne_badHeader {b : List Byte} (hlen : 40 ≤ b.length) (hmagic : startsMagic b = true) (vc : Bool)
    (w : Record) (crc : Word) : decodeFrame (b.take 40) vc ≠ .badHeader w crc := by
  have htake : ((b.take 40).take 4) = Config.magicBytes := by
    rw [List.take_take]
    exact (startsMagic_iff b).mp hmagic
  rw [decodeFrame_eq_ite, if_neg (by simp [hlen]), if_neg (not_not_intro htake)]
  split_ifs
  all_goals nofun

end Sys2Proof.Machine

/-! PROOF. O42, O56, O57, O58: what a transaction leaves alone (spec/60_exceptions.md R181, spec/10_state.md sections 3 to 5). -/

namespace Sys2Proof.Machine

/-- Settles O42: the accepted push is answered, and pushByte writes none of the ports. -/
theorem acceptedPushTouchesOnlyThePipeline : Obligations.AcceptedPushTouchesOnlyThePipeline := by
  unfold Obligations.AcceptedPushTouchesOnlyThePipeline
  intro v s hroom
  have hports := portsKept_pushByte (byteOperand v) s
  exact ⟨_, exec_wrPush_of_room hroom v, rfl, hports.params, hports.cfg, hports.crcAcc, hports.errInfo, hports.pending,
    hports.busError⟩

/-- Settles O56: of the eight effects only that of a configuration write touches the configuration. -/
theorem onlyConfigurationWritesChangeTheConfiguration : Obligations.OnlyConfigurationWritesChangeTheConfiguration := by
  unfold Obligations.OnlyConfigurationWritesChangeTheConfiguration
  intro i s t hexec hother
  cases execEffect_of_exec hexec with
  | config v c hconfig =>
    have hnot := hother v
    simp only [configWrites, List.mem_cons, List.not_mem_nil, or_false] at hconfig
    tauto
  | push v _ => exact (portsKept_pushByte (byteOperand v) s).cfg
  | command v =>
    obtain ⟨-, hcfg, -⟩ := commandActions_kept v s
    exact hcfg
  | read | status | crcData | pop | refused => rfl

/-- The state with another value in the CRC port's accumulator. -/
def withCrcAcc (c : Word) (s : State) : State :=
  { s with crcAcc := c }

/-- A decode attempt neither reads nor writes the CRC port (R29). -/
theorem AttemptEffect.withCrcAcc (c : Word) {s t : State} (h : AttemptEffect s t) :
    AttemptEffect (withCrcAcc c s) (withCrcAcc c t) := by
  cases h with
  | okEmitted hdecode hfilter => exact .okEmitted hdecode hfilter
  | okSuppressed hdecode hfilter => exact .okSuppressed hdecode hfilter
  | mismatchEmitted hdecode haccept hfilter => exact .mismatchEmitted hdecode haccept hfilter
  | mismatchSuppressed hdecode haccept hfilter => exact .mismatchSuppressed hdecode haccept hfilter
  | mismatchDropped hdecode haccept => exact .mismatchDropped hdecode haccept
  | badHeader hdecode => exact .badHeader hdecode

theorem onePass_withCrcAcc_stop (c : Word) {s t : State} (h : onePass s = .stop t) :
    onePass (withCrcAcc c s) = .stop (withCrcAcc c t) := by
  obtain ⟨hnone, e⟩ | ⟨k, hk, hlen, e⟩ | ⟨k, -, -, e⟩ := onePass_cases s
  all_goals rw [e] at h
  · cases h
    exact onePass_of_none (s := withCrcAcc c s) hnone
  · cases h
    exact onePass_of_incomplete (s := withCrcAcc c s) hk hlen
  · cases h

theorem onePass_withCrcAcc_again (c : Word) {s t : State} (h : onePass s = .again t) :
    onePass (withCrcAcc c s) = .again (withCrcAcc c t) := by
  obtain ⟨-, e⟩ | ⟨k, -, -, e⟩ | ⟨k, hk, hlen, e⟩ := onePass_cases s
  all_goals rw [e] at h
  · cases h
  · cases h
  · cases h
    have heffect := attemptEffect_decodeAttempt (s := discardBytes k s) (by simpa using hlen)
    rw [← (heffect.withCrcAcc c).eq]
    exact onePass_of_complete (s := withCrcAcc c s) hk hlen

theorem runPipeline_withCrcAcc (c : Word) (s : State) :
    runPipeline (withCrcAcc c s) = withCrcAcc c (runPipeline s) := by
  apply runPipeline_induction (fun s t => runPipeline (withCrcAcc c s) = withCrcAcc c t)
  case stop => exact fun s t h => runPipeline_of_stop _ _ (onePass_withCrcAcc_stop c h)
  case again => exact fun s t u h hrest => (runPipeline_of_again _ _ (onePass_withCrcAcc_again c h)).trans hrest

/-- An accepted push does the same whatever the CRC port holds (R29). -/
theorem pushByte_withCrcAcc (b : Byte) (c : Word) (s : State) :
    pushByte b (withCrcAcc c s) = withCrcAcc c (pushByte b s) := by
  have hdrop : dropOldestIfFull (withCrcAcc c s) = withCrcAcc c (dropOldestIfFull s) := by
    by_cases hfull : s.buf.length = s.params.bufCap
    · rw [dropOldestIfFull_of_full s hfull, dropOldestIfFull_of_full (withCrcAcc c s) hfull]
      rfl
    · rw [dropOldestIfFull_of_not_full s hfull, dropOldestIfFull_of_not_full (withCrcAcc c s) hfull]
  rw [pushByte, hdrop, pushByte, ← runPipeline_withCrcAcc]
  rfl

/-- CMD without SOFT_RESET and CRC_INIT keeps the accumulator (R60). -/
theorem commandActions_crcAcc {v : Word} (h0 : bitOperand v 0 = false) (h3 : bitOperand v 3 = false) (s : State) :
    (commandActions v s).crcAcc = s.crcAcc := by
  rw [commandActions_eq, h0, h3]
  rfl

/-- Settles O57: which effects touch crc_acc, and that a push commutes with setting it. -/
theorem crcPortAndPipelineDoNotInterfere : Obligations.CrcPortAndPipelineDoNotInterfere := by
  unfold Obligations.CrcPortAndPipelineDoNotInterfere
  refine ⟨fun i s t hexec hnotData hcommand => ?kept, fun v c s t hexec => ?push⟩
  case kept =>
    cases execEffect_of_exec hexec with
    | crcData v => exact absurd rfl (hnotData v)
    | command v =>
      obtain ⟨h0, h3⟩ := hcommand v rfl
      exact commandActions_crcAcc h0 h3 s
    | push v _ => exact (portsKept_pushByte (byteOperand v) s).crcAcc
    | read | config | status | pop | refused => rfl
  case push =>
    by_cases hfull : s.outq.length = s.params.outDepth
    · rw [exec_wrPush_of_full hfull] at hexec
      cases hexec
      exact exec_wrPush_of_full (s := withCrcAcc c s) hfull v
    · rw [exec_wrPush_of_room hfull] at hexec
      cases hexec
      refine (exec_wrPush_of_room (s := withCrcAcc c s) hfull v).trans ?_
      rw [pushByte_withCrcAcc]
      rfl

/-- No sticky bit that is set in the first state is clear in the second (R30). -/
structure StickyKept (s t : State) : Prop where
  badHeader : s.seen.badHeader = true → t.seen.badHeader = true
  crcMismatch : s.seen.crcMismatch = true → t.seen.crcMismatch = true
  overflow : s.seen.overflow = true → t.seen.overflow = true
  busError : s.seen.busError = true → t.seen.busError = true

theorem StickyKept.trans {s t u : State} (h : StickyKept s t) (g : StickyKept t u) : StickyKept s u :=
  ⟨g.badHeader ∘ h.badHeader, g.crcMismatch ∘ h.crcMismatch, g.overflow ∘ h.overflow, g.busError ∘ h.busError⟩

theorem stickyKept_of_eq {s t : State} (h : t.seen = s.seen) : StickyKept s t := by
  refine ⟨?_, ?_, ?_, ?_⟩ <;> exact h ▸ id

theorem stickyKept_attempt {s t : State} (h : AttemptEffect s t) : StickyKept s t := by
  cases h with
  | okEmitted | okSuppressed => exact stickyKept_of_eq rfl
  | mismatchEmitted | mismatchSuppressed | mismatchDropped => exact ⟨id, fun _ => rfl, id, id⟩
  | badHeader => exact ⟨fun _ => rfl, id, id, id⟩

theorem stickyKept_pushByte (b : Byte) (s : State) : StickyKept s (pushByte b s) := by
  refine pushByte_keeps StickyKept (fun _ _ _ => .trans) b (fun _ => stickyKept_of_eq rfl)
    (fun _ _ _ => stickyKept_of_eq rfl) (fun _ _ _ _ => stickyKept_attempt) s ?overflow
  case overflow =>
    by_cases hfull : s.buf.length = s.params.bufCap
    · rw [dropOldestIfFull_of_full s hfull]
      exact ⟨id, id, fun _ => rfl, id⟩
    · rw [dropOldestIfFull_of_not_full s hfull]
      exact stickyKept_of_eq rfl

theorem exec_wrStatus (v : Word) (s : State) :
    exec (.wrStatus v) s = .next (State.answer { s with seen := clearSticky v s.seen } 0#32 false) := rfl

/-- No effect but that of WR STATUS and of a soft reset clears a sticky bit (R30). -/
theorem ExecEffect.stickyKept {i : Instr} {s t : State} (h : ExecEffect s i t) (hnoStatus : ∀ v, i ≠ .wrStatus v)
    (hnoReset : ∀ v, i = .wrCmd v → v.getLsbD 0 = false) : StickyKept s t := by
  cases h with
  | status v => exact absurd rfl (hnoStatus v)
  | command v =>
    have hbit : bitOperand v 0 = false := hnoReset v rfl
    exact stickyKept_of_eq (by rw [answer_seen, commandActions_eq, hbit]; rfl)
  | push v _ => exact (stickyKept_pushByte (byteOperand v) s).trans (stickyKept_of_eq rfl)
  | refused v _ => exact ⟨id, id, id, fun _ => rfl⟩
  | read | config | crcData | pop => exact stickyKept_of_eq rfl

/-- A bit kept by WR STATUS: it is set and not written with 1 (R151). -/
theorem and_not_of_clear {k b : Bool} (hk : k = true) (hb : b = false) : (k && !b) = true := by
  rw [hk, hb]
  rfl

/-- Settles O58: WR STATUS bit by bit; every other effect but the excluded soft reset keeps or sets the sticky bits. -/
theorem stickyBitsStaySet : Obligations.StickyBitsStaySet := by
  unfold Obligations.StickyBitsStaySet
  intro i s t hexec hnoReset
  by_cases hstatus : ∃ v, i = .wrStatus v
  · obtain ⟨v, rfl⟩ := hstatus
    rw [exec_wrStatus] at hexec
    cases hexec
    exact ⟨fun hs hv => and_not_of_clear hs (hv v rfl), fun hs hv => and_not_of_clear hs (hv v rfl),
      fun hs hv => and_not_of_clear hs (hv v rfl), fun hs hv => and_not_of_clear hs (hv v rfl)⟩
  · have hkept := (execEffect_of_exec hexec).stickyKept (fun v hv => hstatus ⟨v, hv⟩) hnoReset
    exact ⟨fun hs _ => hkept.badHeader hs, fun hs _ => hkept.crcMismatch hs, fun hs _ => hkept.overflow hs,
      fun hs _ => hkept.busError hs⟩

end Sys2Proof.Machine

/-! PROOF. O54, O55: the two balances (spec/45_control_registers.md R173). -/

namespace Sys2Proof.Machine

/-- A length counted modulo 2^32 is the sum of what is dropped and what is left. -/
theorem ofNat_length_drop {b : List Byte} {k : Nat} (h : k ≤ b.length) :
    BitVec.ofNat 32 b.length = BitVec.ofNat 32 (b.drop k).length + BitVec.ofNat 32 k := by
  rw [List.length_drop, ← BitVec.ofNat_add, Nat.sub_add_cancel h]

theorem bytesAccounted_discardBytes {s : State} {k : Nat} (h : k ≤ s.buf.length) :
    (discardBytes k s).bytesAccounted = s.bytesAccounted := by
  simp only [State.bytesAccounted, State.filtered, discardBytes_cnt, discardBytes_buf, ofNat_length_drop h]
  ring

theorem bytesAccounted_emitFrame {s : State} (h : 40 ≤ s.buf.length) (code : Word) (w : Record) (crc : Word) :
    (emitFrame code w crc s).bytesAccounted = s.bytesAccounted := by
  simp only [State.bytesAccounted, State.filtered, emitFrame, ofNat_length_drop h, mul_add, BitVec.mul_one]
  ring

theorem bytesAccounted_suppressFrame {s : State} (h : 40 ≤ s.buf.length) (code : Word) (w : Record) (crc : Word) :
    (suppressFrame code w crc s).bytesAccounted = s.bytesAccounted := by
  simp only [State.bytesAccounted, State.filtered, suppressFrame, ofNat_length_drop h, mul_add, BitVec.mul_one]
  ring

theorem bytesAccounted_dropFrame {s : State} (h : 1 ≤ s.buf.length) (code : Word) (w : Record) (crc : Word) :
    (dropFrame code w crc s).bytesAccounted = s.bytesAccounted := by
  simp only [State.bytesAccounted, State.filtered, dropFrame, ofNat_length_drop h]
  ring

/-- A decode attempt only moves bytes within the account: 40 to the filtered records, or one to the discarded bytes. -/
theorem bytesAccounted_attempt {s t : State} (hlen : 40 ≤ s.buf.length) (h : AttemptEffect s t) :
    t.bytesAccounted = s.bytesAccounted := by
  have hone : 1 ≤ s.buf.length := by omega
  cases h with
  | okEmitted => exact bytesAccounted_emitFrame (s := countOk s) hlen _ _ _
  | okSuppressed => exact bytesAccounted_suppressFrame (s := countOk s) hlen _ _ _
  | mismatchEmitted => exact bytesAccounted_emitFrame (s := countMismatch s) hlen _ _ _
  | mismatchSuppressed => exact bytesAccounted_suppressFrame (s := countMismatch s) hlen _ _ _
  | mismatchDropped => exact bytesAccounted_dropFrame (s := countMismatch s) hone _ _ _
  | badHeader => exact bytesAccounted_dropFrame (s := countBadHeader s) hone _ _ _

theorem bytesAccounted_runPipeline (s : State) : (runPipeline s).bytesAccounted = s.bytesAccounted :=
  runPipeline_keeps (fun s t => t.bytesAccounted = s.bytesAccounted) (fun _ _ _ h g => g.trans h)
    (fun _ _ => bytesAccounted_discardBytes) (fun _ _ hlen _ => bytesAccounted_attempt hlen) s

theorem bytesAccounted_appendByte (b : Byte) (s : State) :
    (appendByte b s).bytesAccounted = s.bytesAccounted + 1#32 := by
  simp only [State.bytesAccounted, State.filtered, appendByte_cnt, appendByte_buf, List.length_append,
    List.length_singleton, BitVec.ofNat_add]
  ring

/-- The overflow rule moves the oldest byte to the discarded ones; a supported buffer that is full has one (R11, R83). -/
theorem bytesAccounted_dropOldestIfFull {s : State} (hwf : s.params.wf = true) :
    (dropOldestIfFull s).bytesAccounted = s.bytesAccounted := by
  obtain ⟨hcap, -⟩ := (params_wf_iff s.params).mp hwf
  by_cases hfull : s.buf.length = s.params.bufCap
  · have hone : 1 ≤ s.buf.length := by omega
    rw [dropOldestIfFull_of_full s hfull]
    exact bytesAccounted_discardBytes hone
  · rw [dropOldestIfFull_of_not_full s hfull]

theorem bytesAccounted_pushByte {s : State} (hwf : s.params.wf = true) (b : Byte) :
    (pushByte b s).bytesAccounted = s.bytesAccounted + 1#32 := by
  rw [pushByte, bytesAccounted_runPipeline, bytesAccounted_appendByte, bytesAccounted_dropOldestIfFull hwf]

/-- CMD without SOFT_RESET and CLEAR_COUNTERS keeps the counters (R60). -/
theorem commandActions_cnt {v : Word} (h0 : bitOperand v 0 = false) (h4 : bitOperand v 4 = false) (s : State) :
    (commandActions v s).cnt = s.cnt := by
  rw [commandActions_eq, h0, h4]
  rfl

/-- CMD without SOFT_RESET and FLUSH_BUF keeps the buffer (R60). -/
theorem commandActions_buf {v : Word} (h0 : bitOperand v 0 = false) (h1 : bitOperand v 1 = false) (s : State) :
    (commandActions v s).buf = s.buf := by
  rw [commandActions_eq, h0, h1]
  rfl

/-- Settles O54: an accepted push appends one byte and PROCESS keeps the account; no other effect reaches it but the excluded
commands. -/
theorem everyPushedByteIsAccountedFor : Obligations.EveryPushedByteIsAccountedFor := by
  unfold Obligations.EveryPushedByteIsAccountedFor
  intro i s t hwf hexec
  refine ⟨fun v hi hroom => ?accepted, fun hfull hcommand => ?other⟩
  case accepted =>
    subst hi
    rw [exec_wrPush_of_room hroom] at hexec
    cases hexec
    exact bytesAccounted_pushByte hwf _
  case other =>
    cases execEffect_of_exec hexec with
    | push v hroom => exact absurd (hfull v rfl) hroom
    | command v =>
      obtain ⟨h0, h1, h4⟩ := hcommand v rfl
      simp only [State.bytesAccounted, State.filtered, answer_cnt, answer_buf, commandActions_cnt h0 h4,
        commandActions_buf h0 h1]
    | read | config | status | crcData | pop | refused => rfl

/-- What PROCESS keeps of the filter's account, under each policy (R103, R109). -/
structure FilterBalance (s t : State) : Prop where
  cfg : t.cfg = s.cfg
  rejecting : s.cfg.acceptBadCrc = false → t.filtered - t.cnt.framesOk = s.filtered - s.cnt.framesOk
  accepting : s.cfg.acceptBadCrc = true →
    t.filtered - t.cnt.framesOk - t.cnt.crcMismatch = s.filtered - s.cnt.framesOk - s.cnt.crcMismatch

theorem FilterBalance.trans {s t u : State} (h : FilterBalance s t) (g : FilterBalance t u) : FilterBalance s u where
  cfg := g.cfg.trans h.cfg
  rejecting ha := (g.rejecting (h.cfg ▸ ha)).trans (h.rejecting ha)
  accepting ha := (g.accepting (h.cfg ▸ ha)).trans (h.accepting ha)

/-- A step of the pipeline that writes neither the configuration nor the four counters of the account. -/
theorem filterBalance_of_eq {s t : State} (hcfg : t.cfg = s.cfg) (hfiltered : t.filtered = s.filtered)
    (hok : t.cnt.framesOk = s.cnt.framesOk) (hmismatch : t.cnt.crcMismatch = s.cnt.crcMismatch) : FilterBalance s t :=
  ⟨hcfg, fun _ => by rw [hfiltered, hok], fun _ => by rw [hfiltered, hok, hmismatch]⟩

theorem filterBalance_attempt {s t : State} (h : AttemptEffect s t) : FilterBalance s t := by
  cases h with
  | badHeader => exact filterBalance_of_eq rfl rfl rfl rfl
  | okEmitted | okSuppressed =>
    refine ⟨rfl, fun _ => ?_, fun _ => ?_⟩
    all_goals
      simp only [State.filtered, emitFrame, suppressFrame, countOk]
      ring
  | mismatchEmitted _ haccept | mismatchSuppressed _ haccept =>
    refine ⟨rfl, fun hreject => absurd (haccept.symm.trans hreject) (by decide), fun _ => ?_⟩
    simp only [State.filtered, emitFrame, suppressFrame, countMismatch]
    ring
  | mismatchDropped _ hreject =>
    exact ⟨rfl, fun _ => rfl, fun haccept => absurd (haccept.symm.trans hreject) (by decide)⟩

theorem filterBalance_pushByte (b : Byte) (s : State) : FilterBalance s (pushByte b s) := by
  refine pushByte_keeps FilterBalance (fun _ _ _ => .trans) b (fun _ => filterBalance_of_eq rfl rfl rfl rfl)
    (fun _ _ _ => filterBalance_of_eq rfl rfl rfl rfl) (fun _ _ _ _ => filterBalance_attempt) s ?overflow
  case overflow =>
    by_cases hfull : s.buf.length = s.params.bufCap
    · rw [dropOldestIfFull_of_full s hfull]
      exact filterBalance_of_eq rfl rfl rfl rfl
    · rw [dropOldestIfFull_of_not_full s hfull]
      exact filterBalance_of_eq rfl rfl rfl rfl

/-- Settles O55: a push keeps the account, and no other effect reaches the counters but the excluded commands. -/
theorem filteredRecordsBalanceDecodedFrames : Obligations.FilteredRecordsBalanceDecodedFrames := by
  unfold Obligations.FilteredRecordsBalanceDecodedFrames
  intro i s t hexec hcommand
  cases execEffect_of_exec hexec with
  | push v _ =>
    have hbalance := filterBalance_pushByte (byteOperand v) s
    exact ⟨hbalance.rejecting, hbalance.accepting⟩
  | command v =>
    obtain ⟨h0, h4⟩ := hcommand v rfl
    simp only [State.filtered, answer_cnt, commandActions_cnt h0 h4, implies_true, and_self]
  | read | config | status | crcData | pop | refused => exact ⟨fun _ => rfl, fun _ => rfl⟩

end Sys2Proof.Machine

/-! PROOF. O49: one push adds at most one record and makes at most one decode attempt (spec/44_pipeline_and_output.md R115). -/

namespace Sys2Proof.Machine

theorem pushByte_of_not_full {s : State} (h : s.buf.length ≠ s.params.bufCap) (b : Byte) :
    pushByte b s = runPipeline (appendByte b s) := by
  rw [pushByte, dropOldestIfFull_of_not_full s h]

theorem length_le_of_quiescent {b : List Byte} (h : Quiescent b) : b.length ≤ 39 := by
  obtain ⟨-, hlen⟩ | ⟨-, -, hlen⟩ := h <;> omega

/-- In the states of the invariant the buffer is never full (R84). -/
theorem State.Inv.not_full {s : State} (h : s.Inv) : s.buf.length ≠ s.params.bufCap := by
  obtain ⟨hcap, -⟩ := (params_wf_iff s.params).mp h.params
  have := length_le_of_quiescent h.quiescent
  omega

/-- `n` attempts have been made and at most `n` records queued, at the cost of a byte an attempt; an attempt needs 40 bytes, so
the bytes beyond 39 bound the attempts to come. -/
def Progress (s t : State) : Prop :=
  ∃ (ws : List Record) (n : Nat), t.outq = s.outq ++ ws ∧ t.attempts = s.attempts + BitVec.ofNat 32 n ∧
    ws.length ≤ n ∧ n + (t.buf.length - 39) ≤ s.buf.length - 39

theorem Progress.trans {s t u : State} (h : Progress s t) (g : Progress t u) : Progress s u := by
  obtain ⟨ws, n, hq, ha, hws, hn⟩ := h
  obtain ⟨ws', n', hq', ha', hws', hn'⟩ := g
  refine ⟨ws ++ ws', n + n', ?_, ?_, ?_, by omega⟩
  · rw [hq', hq, List.append_assoc]
  · rw [ha', ha, BitVec.ofNat_add, BitVec.add_assoc]
  · rw [List.length_append]
    omega

theorem progress_discardBytes (s : State) (k : Nat) : Progress s (discardBytes k s) :=
  ⟨[], 0, (List.append_nil _).symm, (BitVec.add_zero _).symm, Nat.le_refl _, by
    rw [discardBytes_buf, List.length_drop]
    omega⟩

/-- An attempt that leaves fewer bytes and counts itself once. -/
theorem progress_attempt {s t : State} (hlen : 40 ≤ s.buf.length) (h : AttemptEffect s t) : Progress s t := by
  have hconsumed : (s.buf.drop 40).length = s.buf.length - 40 := List.length_drop
  have hdropped : (s.buf.drop 1).length = s.buf.length - 1 := List.length_drop
  cases h with
  | @okEmitted w crc | @mismatchEmitted w crc =>
    refine ⟨[w], 1, rfl, ?_, Nat.le_refl 1, by simp only [emitFrame, countOk, countMismatch]; omega⟩
    simp only [State.attempts, emitFrame, countOk, countMismatch]
    ring
  | okSuppressed | mismatchSuppressed =>
    refine ⟨[], 1, (List.append_nil _).symm, ?_, Nat.zero_le 1, by
      simp only [suppressFrame, countOk, countMismatch]; omega⟩
    simp only [State.attempts, suppressFrame, countOk, countMismatch]
    ring
  | mismatchDropped | badHeader =>
    refine ⟨[], 1, (List.append_nil _).symm, ?_, Nat.zero_le 1, by
      simp only [dropFrame, countMismatch, countBadHeader]; omega⟩
    simp only [State.attempts, dropFrame, countMismatch, countBadHeader]
    ring

theorem progress_runPipeline (s : State) : Progress s (runPipeline s) :=
  runPipeline_keeps Progress (fun _ _ _ => .trans) (fun s k _ => progress_discardBytes s k)
    (fun _ _ hlen _ => progress_attempt hlen) s

/-- In the states of the invariant the new byte makes 40 bytes at most, enough for one attempt. -/
theorem pushByte_progress {s : State} (hinv : s.Inv) (b : Byte) :
    ∃ (ws : List Record) (n : Nat), (pushByte b s).outq = s.outq ++ ws ∧
      (pushByte b s).attempts = s.attempts + BitVec.ofNat 32 n ∧ ws.length ≤ n ∧ n ≤ 1 := by
  obtain ⟨ws, n, hq, ha, hws, hn⟩ := progress_runPipeline (appendByte b s)
  have hlen := length_le_of_quiescent hinv.quiescent
  rw [appendByte_buf, List.length_append, List.length_singleton] at hn
  rw [pushByte_of_not_full hinv.not_full]
  exact ⟨ws, n, hq, ha, hws, by omega⟩

/-- Settles O49: a refused push adds nothing, an accepted one makes one attempt at most. -/
theorem pushAddsAtMostOneRecord : Obligations.PushAddsAtMostOneRecord := by
  unfold Obligations.PushAddsAtMostOneRecord
  intro v s t hinv hexec
  cases execEffect_of_exec hexec with
  | refused => exact ⟨.inl rfl, .inl rfl⟩
  | read v hread => exact nomatch hread
  | config v c hconfig => simp [configWrites] at hconfig
  | push =>
    obtain ⟨ws, n, hq, ha, hws, hn⟩ := pushByte_progress hinv (byteOperand v)
    obtain rfl | rfl : n = 0 ∨ n = 1 := by omega
    · obtain rfl : ws = [] := List.length_eq_zero_iff.mp (by omega)
      exact ⟨.inl (hq.trans (List.append_nil _)), .inl (ha.trans (BitVec.add_zero _))⟩
    · refine ⟨?_, .inr ha⟩
      match ws, hws with
      | [], _ => exact .inl (hq.trans (List.append_nil _))
      | [w], _ => exact .inr ⟨w, hq⟩

end Sys2Proof.Machine

/-! PROOF. O51, O52, O53: the invariant of the reachable states (spec/44_pipeline_and_output.md section 1, spec/10_state.md
sections 4 and 5). -/

namespace Sys2Proof.Machine

/-- The invariant reads the parameters, the buffer, the queue, the diagnostic state and err_info, and nothing else. -/
theorem State.Inv.congr {s t : State} (h : s.Inv) (hparams : t.params = s.params) (hbuf : t.buf = s.buf)
    (hq : t.outq = s.outq) (hdiag : t.diag = s.diag) (herr : t.errInfo = s.errInfo) : t.Inv where
  params := hparams ▸ h.params
  quiescent := hbuf ▸ h.quiescent
  queueBound := hparams ▸ hq ▸ h.queueBound
  queued := hq ▸ h.queued
  diagCode := hdiag ▸ h.diagCode
  diagRecord := hdiag ▸ h.diagRecord
  errInfo := herr ▸ h.errInfo

/-- An empty buffer is quiescent (R114). -/
theorem quiescent_nil : Quiescent [] := .inl ⟨rfl, Nat.zero_le 3⟩

/-- What either reset leaves meets the invariant. -/
theorem inv_of_cleared {t : State} (hwf : t.params.wf = true) (hbuf : t.buf = []) (hq : t.outq = [])
    (hdiag : t.diag = Diag.zero) (herr : t.errInfo = 0#32) : t.Inv where
  params := hwf
  quiescent := hbuf ▸ quiescent_nil
  queueBound := hq ▸ Nat.zero_le _
  queued := by simp [hq]
  diagCode := by
    rw [hdiag]
    decide
  diagRecord := .inl (by rw [hdiag]; rfl)
  errInfo := by
    rw [herr]
    decide

/-- Settles O51: the state after reset is cleared. -/
theorem resetMeetsTheInvariant : Obligations.ResetMeetsTheInvariant := by
  unfold Obligations.ResetMeetsTheInvariant
  exact inv_of_cleared rfl rfl rfl rfl rfl

/-- Every bus error writes a legal err_info (R32, R63). -/
theorem errInfoLegal_errInfoWord (c : BusCause) (w : Bool) (a : Addr) : ErrInfoLegal (errInfoWord c w a) := by
  refine ⟨errInfoWord_lt c w a, ?_⟩
  rw [errInfoWord_causeField]
  cases c <;> decide

theorem inv_raiseBusError {s : State} (h : s.Inv) (c : BusCause) (w : Bool) (a : Addr) : (raiseBusError c w a s).Inv :=
  { h with errInfo := errInfoLegal_errInfoWord c w a }

theorem inv_popHead {s : State} (h : s.Inv) : State.Inv { s with outq := s.outq.tail } :=
  { h with
    queueBound := by
      have hbound := h.queueBound
      show s.outq.tail.length ≤ s.params.outDepth
      rw [List.length_tail]
      omega
    queued := fun r hr => h.queued r (List.mem_of_mem_tail hr) }

theorem inv_commandActions {s : State} (h : s.Inv) (v : Word) : (commandActions v s).Inv := by
  cases hreset : bitOperand v 0 with
  | true =>
    rw [commandActions_of_softReset hreset]
    exact inv_of_cleared h.params rfl rfl rfl rfl
  | false =>
    rw [commandActions_eq, hreset]
    refine { h with quiescent := ?buffer, queueBound := ?bound, queued := ?queued }
    case buffer =>
      cases bitOperand v 1 with
      | true => exact quiescent_nil
      | false => exact h.quiescent
    case bound =>
      cases bitOperand v 5 with
      | true => exact Nat.zero_le _
      | false => exact h.queueBound
    case queued =>
      cases bitOperand v 5 with
      | true => exact fun r hr => nomatch hr
      | false => exact h.queued

/-- The bits of the mask that keeps the low byte of FLAGS. -/
theorem lowByteMask_getLsbD : ∀ n < 32, (0xFF#32).getLsbD n = decide (n < 8) := by decide

/-- The record that DECODE makes has FLAGS that agree with its words (R70). -/
theorem flagsAgree_recordOf {f : List Byte} {checked isMatch hdrOk : Bool}
    (hheader : hdrOk = true ↔ be32 f 0 = Config.magic) (hmatch : isMatch = true → checked = true) :
    FlagsAgree (recordOf f checked isMatch hdrOk) := by
  refine ⟨?validity, ?reserved, ?header, ?crc⟩
  case validity =>
    have hstatus : (recordOf f checked isMatch hdrOk).status = byteAt f 32 := be32_top_byte f 32
    apply BitVec.eq_of_getLsbD_eq
    intro n hn
    rw [hstatus, BitVec.getLsbD_and, lowByteMask_getLsbD n hn]
    by_cases hlow : n < 8
    · simp [recordOf, flagsWord_getLsbD, hlow, show n ≠ 8 by omega, show n ≠ 9 by omega, show n ≠ 10 by omega]
    · rw [validFlags_getLsbD, if_neg (by omega)]
      simp [hlow]
  case reserved => exact toNat_lt_two_pow_of_getLsbD fun n hn => recordOf_flagsReserved _ _ _ _ (.inr (.inr hn))
  case header =>
    rw [recordOf_headerOk]
    exact hheader
  case crc =>
    rw [recordOf_crcMatch, recordOf_crcChecked]
    exact hmatch

theorem flagsAgree_of_decodeFrame {b : List Byte} {vc : Bool} {w : Record} {crc : Word}
    (h : decodeFrame b vc = .ok w crc ∨ decodeFrame b vc = .crcMismatch w crc ∨ decodeFrame b vc = .badHeader w crc) :
    FlagsAgree w := by
  obtain ⟨checked, isMatch, hdrOk, rfl, hheader, hmatch⟩ := exists_recordOf_of_decodeFrame h
  exact flagsAgree_recordOf hheader hmatch

/-- A record decoded from bytes that start with the magic carries it (R122). -/
theorem header_of_decodeFrame {b : List Byte} {vc : Bool} {w : Record} {crc : Word}
    (h : decodeFrame (b.take 40) vc = .ok w crc ∨ decodeFrame (b.take 40) vc = .crcMismatch w crc ∨
      decodeFrame (b.take 40) vc = .badHeader w crc) (hmagic : startsMagic b = true) : w.w0 = Config.magic := by
  obtain ⟨checked, isMatch, hdrOk, rfl, -, -⟩ := exists_recordOf_of_decodeFrame h
  have hword : be32 ((b.take 40).take 40) 0 = be32 b 0 := by
    rw [List.take_take]
    exact be32_take b 40 0 (by decide)
  exact hword.trans ((be32_zero_eq_magic_iff b (four_le_of_startsMagic b hmagic)).mpr ((startsMagic_iff b).mp hmagic))

/-- The part of the invariant that speaks of records: those of the queue and the diagnostic one (R28, R70, R122). -/
structure RecordsLegal (s : State) : Prop where
  queued : ∀ r ∈ s.outq, QueuedLegal r
  code : s.diag.code ∈ diagCodes
  record : s.diag.record = Record.zero ∨ FlagsAgree s.diag.record

theorem RecordsLegal.emitFrame {s : State} (h : RecordsLegal s) {code : Word} (hcode : code ∈ diagCodes) {w : Record}
    (hw : QueuedLegal w) (crc : Word) : RecordsLegal (emitFrame code w crc s) where
  queued r hr := by
    obtain hold | hnew := List.mem_append.mp hr
    · exact h.queued r hold
    · rw [List.mem_singleton.mp hnew]
      exact hw
  code := hcode
  record := .inr hw.2

theorem RecordsLegal.suppressFrame {s : State} (h : RecordsLegal s) {code : Word} (hcode : code ∈ diagCodes) {w : Record}
    (hw : FlagsAgree w) (crc : Word) : RecordsLegal (suppressFrame code w crc s) :=
  ⟨h.queued, hcode, .inr hw⟩

theorem RecordsLegal.dropFrame {s : State} (h : RecordsLegal s) {code : Word} (hcode : code ∈ diagCodes) {w : Record}
    (hw : FlagsAgree w) (crc : Word) : RecordsLegal (dropFrame code w crc s) :=
  ⟨h.queued, hcode, .inr hw⟩

theorem recordsLegal_attempt {s t : State} (hmagic : startsMagic s.buf = true) (heffect : AttemptEffect s t)
    (h : RecordsLegal s) : RecordsLegal t := by
  have hok : RecordsLegal (countOk s) := ⟨h.queued, h.code, h.record⟩
  have hmismatch : RecordsLegal (countMismatch s) := ⟨h.queued, h.code, h.record⟩
  have hbad : RecordsLegal (countBadHeader s) := ⟨h.queued, h.code, h.record⟩
  cases heffect with
  | okEmitted hdecode =>
    exact hok.emitFrame (by decide)
      ⟨header_of_decodeFrame (.inl hdecode) hmagic, flagsAgree_of_decodeFrame (.inl hdecode)⟩ _
  | okSuppressed hdecode => exact hok.suppressFrame (by decide) (flagsAgree_of_decodeFrame (.inl hdecode)) _
  | mismatchEmitted hdecode =>
    exact hmismatch.emitFrame (by decide)
      ⟨header_of_decodeFrame (.inr (.inl hdecode)) hmagic, flagsAgree_of_decodeFrame (.inr (.inl hdecode))⟩ _
  | mismatchSuppressed hdecode =>
    exact hmismatch.suppressFrame (by decide) (flagsAgree_of_decodeFrame (.inr (.inl hdecode))) _
  | mismatchDropped hdecode => exact hmismatch.dropFrame (by decide) (flagsAgree_of_decodeFrame (.inr (.inl hdecode))) _
  | badHeader hdecode => exact hbad.dropFrame (by decide) (flagsAgree_of_decodeFrame (.inr (.inr hdecode))) _

theorem recordsLegal_runPipeline (s : State) : RecordsLegal s → RecordsLegal (runPipeline s) :=
  runPipeline_keeps (fun s t => RecordsLegal s → RecordsLegal t) (fun _ _ _ h g => g ∘ h)
    (fun _ _ _ h => ⟨h.queued, h.code, h.record⟩) (fun _ _ _ hmagic => recordsLegal_attempt hmagic) s

/-- An accepted push keeps the invariant: PROCESS leaves a quiescent buffer and legal records, and queues one at most. -/
theorem inv_pushByte {s : State} (h : s.Inv) (hroom : s.outq.length ≠ s.params.outDepth) (b : Byte) :
    (pushByte b s).Inv := by
  have hports := portsKept_pushByte b s
  have hlegal : RecordsLegal (pushByte b s) := by
    rw [pushByte_of_not_full h.not_full]
    exact recordsLegal_runPipeline _ ⟨h.queued, h.diagCode, h.diagRecord⟩
  obtain ⟨ws, n, hq, -, hws, hn⟩ := pushByte_progress h b
  have hbound := h.queueBound
  exact {
    params := hports.params ▸ h.params
    quiescent := quiescent_runPipeline _
    queueBound := by
      rw [hports.params, hq, List.length_append]
      omega
    queued := hlegal.queued
    diagCode := hlegal.code
    diagRecord := hlegal.record
    errInfo := hports.errInfo ▸ h.errInfo }

/-- No instruction leaves the invariant. -/
theorem ExecEffect.inv {i : Instr} {s t : State} (heffect : ExecEffect s i t) (h : s.Inv) : t.Inv := by
  cases heffect with
  | command v => exact (inv_commandActions h v).congr rfl rfl rfl rfl rfl
  | pop v => exact (inv_popHead h).congr rfl rfl rfl rfl rfl
  | refused => exact inv_raiseBusError h _ _ _
  | push v hroom => exact (inv_pushByte h hroom _).congr rfl rfl rfl rfl rfl
  | read | config | status | crcData => exact h.congr rfl rfl rfl rfl rfl

/-- What the taking of an event, a hardware reset, a rejected word and every instruction keep, a step keeps. -/
theorem step_keeps {p : State → Prop} (pending : ∀ s rest, p s → p { s with pending := rest })
    (reset : ∀ s, p s → p (hardReset s)) (error : ∀ c w a s, p s → p (raiseBusError c w a s))
    (instr : ∀ i s t, ExecEffect s i t → p s → p t) {s t : State} (h : p s) (hstep : step s = .next t) : p t := by
  obtain ⟨-, ⟨-, rfl⟩ | ⟨rest, -, rfl⟩ | ⟨x, rest, -, hrun⟩⟩ := step_eq_next s t hstep
  · exact h
  · exact reset _ (pending s rest h)
  · obtain ⟨i, -, e⟩ | ⟨c, -, e⟩ := runTransaction_cases x { s with pending := rest }
    · exact instr i _ t (execEffect_of_exec (e.symm.trans hrun)) (pending s rest h)
    · rw [e] at hrun
      cases hrun
      exact error _ _ _ _ (pending s rest h)

theorem step_keeps_inv {s t : State} (h : s.Inv) (hstep : step s = .next t) : t.Inv :=
  step_keeps (p := State.Inv) (fun _ _ h => h.congr rfl rfl rfl rfl rfl)
    (fun _ h => inv_of_cleared h.params rfl rfl rfl rfl) (fun c w a _ h => inv_raiseBusError h c w a)
    (fun _ _ _ => ExecEffect.inv) h hstep

/-- Settles O52: every event keeps the invariant. -/
theorem everyStepKeepsTheInvariant : Obligations.EveryStepKeepsTheInvariant := by
  unfold Obligations.EveryStepKeepsTheInvariant
  exact fun s t => step_keeps_inv

/-- What an accepted push keeps of the records of BadHeader and BufferOverflow in the states of the invariant (R84, R96). -/
structure BadKept (s t : State) : Prop where
  cntBadHeader : t.cnt.badHeader = s.cnt.badHeader
  seenBadHeader : t.seen.badHeader = s.seen.badHeader
  cntOverflow : t.cnt.overflow = s.cnt.overflow
  seenOverflow : t.seen.overflow = s.seen.overflow

theorem BadKept.trans {s t u : State} (h : BadKept s t) (g : BadKept t u) : BadKept s u :=
  ⟨g.cntBadHeader.trans h.cntBadHeader, g.seenBadHeader.trans h.seenBadHeader, g.cntOverflow.trans h.cntOverflow,
    g.seenOverflow.trans h.seenOverflow⟩

theorem BadKept.neverBad {s t : State} (h : BadKept s t) (hs : s.NeverBad) : t.NeverBad := by
  obtain ⟨hc, hseen, hco, hso⟩ := hs
  exact ⟨h.cntBadHeader.trans hc, h.seenBadHeader.trans hseen, h.cntOverflow.trans hco, h.seenOverflow.trans hso⟩

/-- An attempt is made on a buffer that starts with the magic, so its header is right (R96). -/
theorem badKept_attempt {s t : State} (hlen : 40 ≤ s.buf.length) (hmagic : startsMagic s.buf = true)
    (h : AttemptEffect s t) : BadKept s t := by
  cases h with
  | badHeader hdecode => exact absurd hdecode (decodeFrame_ne_badHeader hlen hmagic _ _ _)
  | okEmitted | okSuppressed | mismatchEmitted | mismatchSuppressed | mismatchDropped => exact ⟨rfl, rfl, rfl, rfl⟩

theorem badKept_runPipeline (s : State) : BadKept s (runPipeline s) :=
  runPipeline_keeps BadKept (fun _ _ _ => .trans) (fun _ _ _ => ⟨rfl, rfl, rfl, rfl⟩) (fun _ _ => badKept_attempt) s

theorem badKept_pushByte {s : State} (h : s.Inv) (b : Byte) : BadKept s (pushByte b s) := by
  rw [pushByte_of_not_full h.not_full]
  exact BadKept.trans (t := appendByte b s) ⟨rfl, rfl, rfl, rfl⟩ (badKept_runPipeline _)

/-- No command records a BadHeader or a BufferOverflow: it keeps their counters and bits or clears them (R60). -/
theorem neverBad_commandActions {s : State} (h : s.NeverBad) (v : Word) : (commandActions v s).NeverBad := by
  obtain ⟨hc, hseen, hco, hso⟩ := h
  rw [commandActions_eq]
  refine ⟨?_, ?_, ?_, ?_⟩
  · cases bitOperand v 0 || bitOperand v 4 with
    | true => rfl
    | false => exact hc
  · cases bitOperand v 0 with
    | true => rfl
    | false => exact hseen
  · cases bitOperand v 0 || bitOperand v 4 with
    | true => rfl
    | false => exact hco
  · cases bitOperand v 0 with
    | true => rfl
    | false => exact hso

theorem ExecEffect.neverBad {i : Instr} {s t : State} (heffect : ExecEffect s i t) (hinv : s.Inv) (h : s.NeverBad) :
    t.NeverBad := by
  cases heffect with
  | status v =>
    obtain ⟨hc, hseen, hco, hso⟩ := h
    exact ⟨hc, by simp [clearSticky, hseen], hco, by simp [clearSticky, hso]⟩
  | command v => exact neverBad_commandActions h v
  | push v _ => exact (badKept_pushByte hinv _).neverBad h
  | read | config | crcData | pop | refused => exact h

/-- Settles O53: within the invariant no event records either condition. -/
theorem badHeaderAndOverflowNeverHappen : Obligations.BadHeaderAndOverflowNeverHappen := by
  unfold Obligations.BadHeaderAndOverflowNeverHappen
  intro s t hinv hnever hstep
  obtain ⟨-, ht⟩ : t.Inv ∧ t.NeverBad :=
    step_keeps (p := fun u => u.Inv ∧ u.NeverBad) (fun _ _ ⟨h, g⟩ => ⟨h.congr rfl rfl rfl rfl rfl, g⟩)
      (fun _ ⟨h, _⟩ => ⟨inv_of_cleared h.params rfl rfl rfl rfl, rfl, rfl, rfl, rfl⟩)
      (fun c w a _ ⟨h, g⟩ => ⟨inv_raiseBusError h c w a, g⟩)
      (fun _ _ _ heffect ⟨h, g⟩ => ⟨heffect.inv h, heffect.neverBad h g⟩) ⟨hinv, hnever⟩ hstep
  exact ht

end Sys2Proof.Machine

/-! PROOF. O43 to O48: what one push does, case by case (spec/44_pipeline_and_output.md R109 to R119, spec/41_synchronizer.md). -/

namespace Sys2Proof.Machine

/-- A push into a queue and a buffer with room runs PROCESS on the buffer with the new byte (R119). -/
theorem exec_wrPush_of_not_full {s : State} (hroom : s.outq.length ≠ s.params.outDepth)
    (hcap : s.buf.length ≠ s.params.bufCap) (v : Word) :
    exec (.wrPush v) s = .next ((runPipeline (appendByte (v.extractLsb' 0 8) s)).answer 0#32 false) := by
  rw [exec_wrPush_of_room hroom, pushByte_of_not_full hcap]
  rfl

/-- Settles O43: the one pass finds no magic and trims the buffer. -/
theorem pushWithoutMagicKeepsThreeBytes : Obligations.PushWithoutMagicKeepsThreeBytes := by
  unfold Obligations.PushWithoutMagicKeepsThreeBytes
  intro v s f cut hroom hcap hnone
  rw [exec_wrPush_of_not_full hroom hcap, runPipeline_of_stop _ _ (onePass_of_none hnone)]
  rfl

/-- Settles O44: the one pass drops what stands before the magic and waits. -/
theorem pushOfAnIncompleteFrameWaits : Obligations.PushOfAnIncompleteFrameWaits := by
  unfold Obligations.PushOfAnIncompleteFrameWaits
  intro v s k f hroom hcap hk hlen
  rw [exec_wrPush_of_not_full hroom hcap, runPipeline_of_stop _ _ (onePass_of_incomplete hk hlen)]
  rfl

theorem discardBytes_zero (s : State) : discardBytes 0 s = s := by
  simp only [discardBytes, List.drop_zero, BitVec.add_zero]

/-- PROCESS on an empty buffer does nothing (R81). -/
theorem runPipeline_of_empty {s : State} (h : s.buf = []) : runPipeline s = s := by
  have hnone : findMagic s.buf = none := by rw [h, findMagic_nil]
  rw [runPipeline_of_stop _ _ (onePass_of_none hnone), keepTail, h]
  exact discardBytes_zero s

/-- On 40 bytes that start with the magic PROCESS makes its attempt and goes on from there (R109). -/
theorem runPipeline_of_frame {s t : State} (hlen : s.buf.length = 40) (hmagic : s.buf.take 4 = Config.magicBytes)
    (heffect : AttemptEffect s t) : runPipeline s = runPipeline t := by
  have hzero : findMagic s.buf = some 0 := (findMagic_eq_zero_iff _).mpr ((startsMagic_iff _).mpr hmagic)
  have hpass := onePass_of_complete hzero (Nat.le_of_eq hlen.symm)
  rw [discardBytes_zero, heffect.eq] at hpass
  exact runPipeline_of_again _ _ hpass

/-- DECODE of a frame whose CRC is right if it is checked (R85). -/
theorem decodeFrame_of_good {f : List Byte} {vc : Bool} (hlen : f.length = 40) (hmagic : f.take 4 = Config.magicBytes)
    (hcrc : vc = true → crc32 (f.take 36) = be32 f 36) :
    decodeFrame (f.take 40) vc = .ok (recordOf f vc vc true) (if vc then crc32 (f.take 36) else 0#32) := by
  rw [List.take_of_length_le hlen.le, decodeFrame_eq_ite, if_neg (by omega), if_neg (not_not_intro hmagic),
    List.take_of_length_le hlen.le]
  cases vc with
  | false => rfl
  | true => rw [if_neg (by decide), if_pos (hcrc rfl), if_pos rfl]

/-- DECODE of a frame whose CRC is checked and wrong (R85). -/
theorem decodeFrame_of_wrong_crc {f : List Byte} {vc : Bool} (hlen : f.length = 40)
    (hmagic : f.take 4 = Config.magicBytes) (hvc : vc = true) (hcrc : crc32 (f.take 36) ≠ be32 f 36) :
    decodeFrame (f.take 40) vc = .crcMismatch (recordOf f true false true) (crc32 (f.take 36)) := by
  rw [List.take_of_length_le hlen.le, decodeFrame_eq_ite, if_neg (by omega), if_neg (not_not_intro hmagic),
    if_neg (by simp [hvc]), if_neg hcrc, List.take_of_length_le hlen.le]

/-- FILTER emits a record with no snapshot to hold it against, and one that differs from the snapshot (R103). -/
theorem filterDecision_of_changed {c : Settings} {filt : Option Snapshot} {w : Record}
    (h : filt = none ∨ ∃ p, filt = some p ∧ changed c w p = true) : filterDecision c filt w = .emitted := by
  obtain rfl | ⟨p, rfl, hchanged⟩ := h
  · rfl
  · rw [filterDecision_some, if_pos hchanged]

/-- FILTER suppresses a record that does not differ from the snapshot (R103). -/
theorem filterDecision_of_unchanged {c : Settings} {filt : Option Snapshot} {w : Record}
    (h : ∃ p, filt = some p ∧ changed c w p = false) : filterDecision c filt w = .suppressed := by
  obtain ⟨p, rfl, hunchanged⟩ := h
  rw [filterDecision_some, if_neg (by simp [hunchanged])]

/-- A frame that is all of the buffer is emitted and leaves the buffer empty, so PROCESS ends (R110). -/
theorem runPipeline_emitFrame {s : State} (hlen : s.buf.length = 40) (code : Word) (w : Record) (crc : Word) :
    runPipeline (emitFrame code w crc s) = { s with
      buf := []
      outq := s.outq ++ [w]
      filt := some (snap w)
      diag := ⟨w, code, crc⟩
      cnt := { s.cnt with emitted := s.cnt.emitted + 1#32 } } := by
  have hdrop : s.buf.drop 40 = [] := List.drop_eq_nil_of_le hlen.le
  rw [runPipeline_of_empty hdrop, emitFrame, hdrop]

theorem runPipeline_suppressFrame {s : State} (hlen : s.buf.length = 40) (code : Word) (w : Record) (crc : Word) :
    runPipeline (suppressFrame code w crc s) = { s with
      buf := []
      diag := ⟨w, code, crc⟩
      cnt := { s.cnt with suppressed := s.cnt.suppressed + 1#32 } } := by
  have hdrop : s.buf.drop 40 = [] := List.drop_eq_nil_of_le hlen.le
  rw [runPipeline_of_empty hdrop, suppressFrame, hdrop]

theorem discardBytes_dropFrame (k : Nat) (code : Word) (w : Record) (crc : Word) (s : State) :
    discardBytes k (dropFrame code w crc s) = { s with
      buf := s.buf.drop (1 + k)
      diag := ⟨w, code, crc⟩
      cnt := { s.cnt with discarded := s.cnt.discarded + BitVec.ofNat 32 (1 + k) } } := by
  have hbuf : (s.buf.drop 1).drop k = s.buf.drop (1 + k) := List.drop_drop
  have hcnt : s.cnt.discarded + 1#32 + BitVec.ofNat 32 k = s.cnt.discarded + BitVec.ofNat 32 (1 + k) := by
    rw [BitVec.ofNat_add, BitVec.add_assoc]
  simp only [discardBytes, dropFrame, hbuf, hcnt]

/-- A frame that is all of the buffer is dropped by one byte, and its other 39 bytes are searched again (R111). -/
theorem runPipeline_dropFrame {s : State} (hlen : s.buf.length = 40) (code : Word) (w : Record) (crc : Word) :
    runPipeline (dropFrame code w crc s) =
      discardBytes (match findMagic (s.buf.drop 1) with | none => 36 | some k => k) (dropFrame code w crc s) := by
  have hrest : (dropFrame code w crc s).buf = s.buf.drop 1 := rfl
  have hlen39 : (s.buf.drop 1).length = 39 := by rw [List.length_drop, hlen]
  cases hk : findMagic (s.buf.drop 1) with
  | none =>
    rw [runPipeline_of_stop _ _ (onePass_of_none hk), keepTail, hrest, hlen39]
    rfl
  | some k => exact runPipeline_of_stop _ _ (onePass_of_incomplete hk (by rw [hrest, hlen39]; omega))

/-- In a supported block a byte that completes 40 finds room (R11). -/
theorem not_full_of_completes {s : State} {b : Byte} (hwf : s.params.wf = true) (hlen : (s.buf ++ [b]).length = 40) :
    s.buf.length ≠ s.params.bufCap := by
  obtain ⟨hcap, -⟩ := (params_wf_iff s.params).mp hwf
  rw [List.length_append, List.length_singleton] at hlen
  omega

/-- A push that completes 40 bytes which start with the magic makes an attempt on them, and PROCESS goes on from there. -/
theorem exec_wrPush_of_frame {v : Word} {s t : State} (hroom : s.outq.length ≠ s.params.outDepth)
    (hwf : s.params.wf = true) (hlen : (s.buf ++ [v.extractLsb' 0 8]).length = 40)
    (hmagic : (s.buf ++ [v.extractLsb' 0 8]).take 4 = Config.magicBytes)
    (heffect : AttemptEffect (appendByte (v.extractLsb' 0 8) s) t) :
    exec (.wrPush v) s = .next ((runPipeline t).answer 0#32 false) := by
  rw [exec_wrPush_of_not_full hroom (not_full_of_completes hwf hlen),
    runPipeline_of_frame (s := appendByte (v.extractLsb' 0 8) s) hlen hmagic heffect]

/-- Settles O45: one attempt with result OK, and the filter's decision. -/
theorem pushOfAGoodFrameEmitsOrSuppresses : Obligations.PushOfAGoodFrameEmitsOrSuppresses := by
  unfold Obligations.PushOfAGoodFrameEmitsOrSuppresses
  intro v s f w crc hroom hwf hlen hmagic hcrc
  have hdecode : decodeFrame (f.take 40) s.cfg.validateCrc = .ok w crc := decodeFrame_of_good hlen hmagic hcrc
  refine ⟨fun hchanged => ?emitted, fun hunchanged => ?suppressed⟩
  case emitted =>
    rw [exec_wrPush_of_frame hroom hwf hlen hmagic (.okEmitted hdecode (filterDecision_of_changed hchanged)),
      runPipeline_emitFrame]
    · rfl
    · exact hlen
  case suppressed =>
    rw [exec_wrPush_of_frame hroom hwf hlen hmagic (.okSuppressed hdecode (filterDecision_of_unchanged hunchanged)),
      runPipeline_suppressFrame]
    · rfl
    · exact hlen

/-- Settles O46: one attempt with result CRC_MISMATCH, then the search of the remaining 39 bytes. -/
theorem pushOfABadFrameIsDroppedByOneByte : Obligations.PushOfABadFrameIsDroppedByOneByte := by
  unfold Obligations.PushOfABadFrameIsDroppedByOneByte
  intro v s f cut hroom hwf hlen hmagic hvalidate hcrc hreject
  have hdecode : decodeFrame (f.take 40) s.cfg.validateCrc = .crcMismatch (recordOf f true false true) _ :=
    decodeFrame_of_wrong_crc hlen hmagic hvalidate hcrc
  rw [exec_wrPush_of_frame hroom hwf hlen hmagic (.mismatchDropped hdecode hreject), runPipeline_dropFrame,
    discardBytes_dropFrame]
  · rfl
  · exact hlen

/-- Settles O47: one attempt with result CRC_MISMATCH, accepted, and the filter's decision. -/
theorem pushOfAnAcceptedBadFrameIsFiltered : Obligations.PushOfAnAcceptedBadFrameIsFiltered := by
  unfold Obligations.PushOfAnAcceptedBadFrameIsFiltered
  intro v s f w hroom hwf hlen hmagic hvalidate hcrc haccept
  have hdecode : decodeFrame (f.take 40) s.cfg.validateCrc = .crcMismatch w _ :=
    decodeFrame_of_wrong_crc hlen hmagic hvalidate hcrc
  refine ⟨recordOf_crcChecked .., recordOf_crcMatch .., fun hchanged => ?emitted, fun hunchanged => ?suppressed⟩
  case emitted =>
    have hfilter := filterDecision_of_changed hchanged
    rw [exec_wrPush_of_frame hroom hwf hlen hmagic (.mismatchEmitted hdecode haccept hfilter), runPipeline_emitFrame]
    · rfl
    · exact hlen
  case suppressed =>
    have hfilter := filterDecision_of_unchanged hunchanged
    rw [exec_wrPush_of_frame hroom hwf hlen hmagic (.mismatchSuppressed hdecode haccept hfilter),
      runPipeline_suppressFrame]
    · rfl
    · exact hlen

/-- PROCESS records no overflow: that is the overflow rule's alone (R83). -/
structure OverflowKept (s t : State) : Prop where
  cnt : t.cnt.overflow = s.cnt.overflow
  seen : t.seen.overflow = s.seen.overflow

theorem overflowKept_attempt {s t : State} (h : AttemptEffect s t) : OverflowKept s t := by
  cases h with
  | okEmitted | okSuppressed | mismatchEmitted | mismatchSuppressed | mismatchDropped | badHeader => exact ⟨rfl, rfl⟩

theorem overflowKept_runPipeline (s : State) : OverflowKept s (runPipeline s) :=
  runPipeline_keeps OverflowKept (fun _ _ _ h g => ⟨g.cnt.trans h.cnt, g.seen.trans h.seen⟩)
    (fun _ _ _ => ⟨rfl, rfl⟩) (fun _ _ _ _ => overflowKept_attempt) s

/-- In a supported block the buffer has room once the oldest byte is dropped (R83). -/
theorem dropOldestIfFull_idem {s : State} (hwf : s.params.wf = true) (hfull : s.buf.length = s.params.bufCap) :
    dropOldestIfFull (dropOldestIfFull s) = dropOldestIfFull s := by
  obtain ⟨hcap, -⟩ := (params_wf_iff s.params).mp hwf
  apply dropOldestIfFull_of_not_full
  rw [dropOldestIfFull_of_full s hfull]
  show (s.buf.drop 1).length ≠ s.params.bufCap
  rw [List.length_drop]
  omega

/-- Settles O48: the overflow rule comes first, and the rest is a push from the state it leaves. -/
theorem pushIntoAFullBufferDropsTheOldestByte : Obligations.PushIntoAFullBufferDropsTheOldestByte := by
  unfold Obligations.PushIntoAFullBufferDropsTheOldestByte
  intro v s f cut hroom hfull
  have hdrop := dropOldestIfFull_of_full s hfull
  rw [exec_wrPush_of_room hroom]
  refine ⟨?recorded, fun hwf => ?sameAsDropped, fun hnone => ?withoutMagic⟩
  case recorded =>
    have hkept := overflowKept_runPipeline (appendByte (byteOperand v) (dropOldestIfFull s))
    refine ⟨_, rfl, hkept.seen.trans ?_, hkept.cnt.trans ?_⟩
    · rw [appendByte_seen, hdrop]
    · rw [appendByte_cnt, hdrop]
  case sameAsDropped =>
    rw [← hdrop, exec_wrPush_of_room (by rw [hdrop]; exact hroom), pushByte, pushByte, dropOldestIfFull_idem hwf hfull]
  case withoutMagic =>
    rw [pushByte, hdrop, runPipeline_of_stop _ _ (onePass_of_none hnone)]
    rfl

end Sys2Proof.Machine

/-! PROOF. O50: noise without the magic, then one frame, gives one record (spec/44_pipeline_and_output.md R118). -/

namespace Sys2Proof.Machine

theorem magicAt_drop (b : List Byte) (m j : Nat) : MagicAt (b.drop m) j ↔ MagicAt b (m + j) := by
  rw [MagicAt, MagicAt, List.drop_drop]

/-- An occurrence in an initial piece is one in the whole with its four bytes inside the piece. -/
theorem magicAt_take_iff (b : List Byte) (i j : Nat) : MagicAt (b.take i) j ↔ MagicAt b j ∧ j + 4 ≤ i := by
  have hpiece (h : j + 4 ≤ i) : ((b.take i).drop j).take 4 = (b.drop j).take 4 := by
    rw [List.drop_take, List.take_take, Nat.min_eq_left (by omega)]
  constructor
  · intro h
    have hfour := four_le_of_startsMagic _ ((magicAt_iff_startsMagic _ _).mp h)
    rw [List.length_drop, List.length_take] at hfour
    have hin : j + 4 ≤ i := by omega
    exact ⟨(hpiece hin).symm.trans h, hin⟩
  · rintro ⟨h, hin⟩
    exact (hpiece hin).trans h

section NoiseThenFrame

variable {noise : List Byte} (x : FrameFields)

/-- The frame's own magic stands where the noise ends. -/
theorem magicAt_stream : MagicAt (noise ++ encodeFrame x) noise.length := by
  rw [MagicAt, List.drop_left]
  exact encodeFrame_take_magic x

/-- No occurrence comes before the frame's own: it would lie in the noise, as two occurrences are four bytes apart (R79). -/
theorem length_le_of_magicAt_stream (hnoise : findMagic noise = none) {j : Nat}
    (hj : MagicAt (noise ++ encodeFrame x) j) : noise.length ≤ j := by
  by_contra hlt
  have hfour := add_four_le_of_magicAt (Nat.lt_of_not_le hlt) hj (magicAt_stream x)
  have hin := (magicAt_take_iff _ noise.length j).mpr ⟨hj, hfour⟩
  rw [List.take_left] at hin
  exact (findMagic_eq_none_iff noise).mp hnoise j hin

/-- Before the frame's fourth byte the stream holds no magic. -/
theorem findMagic_stream_of_lt (hnoise : findMagic noise = none) {i m : Nat} (hi : i < noise.length + 4) :
    findMagic (((noise ++ encodeFrame x).take i).drop m) = none := by
  rw [findMagic_eq_none_iff]
  intro j hj
  rw [magicAt_drop, magicAt_take_iff] at hj
  obtain ⟨hmagic, hin⟩ := hj
  have := length_le_of_magicAt_stream x hnoise hmagic
  omega

/-- From the frame's fourth byte on the search finds the frame. -/
theorem findMagic_stream_of_ge (hnoise : findMagic noise = none) {i m : Nat} (hi : noise.length + 4 ≤ i)
    (hm : m ≤ noise.length) :
    findMagic (((noise ++ encodeFrame x).take i).drop m) = some (noise.length - m) := by
  rw [findMagic_eq_some_iff]
  constructor
  · rw [magicAt_drop, magicAt_take_iff, Nat.add_sub_cancel' hm]
    exact ⟨magicAt_stream x, hi⟩
  · intro j hj hmagic
    rw [magicAt_drop, magicAt_take_iff] at hmagic
    have := length_le_of_magicAt_stream x hnoise hmagic.1
    omega

end NoiseThenFrame

/-- The state in which `stream` has been pushed from `s` and its first `m` bytes are discarded. -/
def waiting (s : State) (stream : List Byte) (m : Nat) (r : Option Response) : State :=
  { s with
    buf := stream.drop m
    cnt := { s.cnt with discarded := s.cnt.discarded + BitVec.ofNat 32 m }
    resp := r }

theorem waiting_nil {s : State} (hempty : s.buf = []) : waiting s [] 0 s.resp = s := by
  simp only [waiting, List.drop_nil, BitVec.add_zero]
  rw [← hempty]

/-- Bytes discarded from a waiting state are further bytes of the stream. -/
theorem waiting_discard (s : State) (stream : List Byte) (m k : Nat) (r : Option Response) :
    { waiting s stream m r with
      buf := (stream.drop m).drop k
      cnt := { (waiting s stream m r).cnt with
        discarded := (waiting s stream m r).cnt.discarded + BitVec.ofNat 32 k } } = waiting s stream (m + k) r := by
  simp only [waiting, List.drop_drop, BitVec.ofNat_add, BitVec.add_assoc]

section PushWhileWaiting

variable {s : State} {stream : List Byte} {m : Nat} {b : Byte} (r : Option Response)
  (hroom : s.outq.length ≠ s.params.outDepth) (hcap : (stream.drop m).length ≠ s.params.bufCap)
  (hm : m ≤ stream.length)
include hroom hcap hm

/-- A byte that leaves no magic: all but the last three bytes are discarded (R81). -/
theorem exec_push_waiting_of_none (hnone : findMagic ((stream ++ [b]).drop m) = none) :
    exec (.wrPush (b.setWidth 32)) (waiting s stream m r) =
      .next (waiting s (stream ++ [b]) (m + (((stream ++ [b]).drop m).length - min ((stream ++ [b]).drop m).length 3))
        (some ⟨0#32, false⟩)) := by
  have hbyte : (b.setWidth 32).extractLsb' 0 8 = b := byteOperand_setWidth b
  have hbuf : stream.drop m ++ [b] = (stream ++ [b]).drop m := (List.drop_append_of_le_length hm).symm
  have hpush := pushWithoutMagicKeepsThreeBytes (b.setWidth 32) (waiting s stream m r) hroom hcap
  simp only [hbyte, waiting, hbuf] at hpush
  rw [waiting, hpush hnone, ← waiting_discard]
  rfl

/-- A byte that leaves the magic at `k` with fewer than 40 bytes from there: the `k` bytes before it are discarded (R80). -/
theorem exec_push_waiting_of_some {k : Nat} (hk : findMagic ((stream ++ [b]).drop m) = some k)
    (hlen : ((stream ++ [b]).drop m).length - k < 40) :
    exec (.wrPush (b.setWidth 32)) (waiting s stream m r) =
      .next (waiting s (stream ++ [b]) (m + k) (some ⟨0#32, false⟩)) := by
  have hbyte : (b.setWidth 32).extractLsb' 0 8 = b := byteOperand_setWidth b
  have hbuf : stream.drop m ++ [b] = (stream ++ [b]).drop m := (List.drop_append_of_le_length hm).symm
  have hpush := pushOfAnIncompleteFrameWaits (b.setWidth 32) (waiting s stream m r) k hroom hcap
  simp only [hbyte, waiting, hbuf] at hpush
  rw [waiting, hpush hk hlen, ← waiting_discard]
  rfl

end PushWhileWaiting

/-- A stream pushed with one more byte. -/
theorem pushAll_concat {as : List Byte} {b : Byte} {s t u : State} (h : pushAll as s = .next t)
    (hb : exec (.wrPush (b.setWidth 32)) t = .next u) : pushAll (as ++ [b]) s = .next u := by
  induction as generalizing s with
  | nil =>
    cases h
    simp only [List.nil_append, pushAll, hb]
  | cons a as ih =>
    rw [List.cons_append]
    unfold pushAll at h ⊢
    cases hfirst : exec (.wrPush (a.setWidth 32)) s with
    | next v =>
      rw [hfirst] at h
      exact ih h
    | fault f => cases f
    | refused f =>
      rw [hfirst] at h
      cases h

/-- Before the last byte of the frame the block waits: it keeps at most three bytes until the frame's fourth byte, and from then
on exactly the frame's bytes. -/
theorem exists_waiting {noise : List Byte} (x : FrameFields) {s : State} (hwf : s.params.wf = true) (hempty : s.buf = [])
    (hroom : s.outq.length ≠ s.params.outDepth) (hnoise : findMagic noise = none) (i : Nat) (hi : i ≤ noise.length + 39) :
    ∃ m r, pushAll ((noise ++ encodeFrame x).take i) s = .next (waiting s ((noise ++ encodeFrame x).take i) m r) ∧
      m ≤ noise.length ∧ m ≤ i ∧ (i < noise.length + 4 → i ≤ m + 3) ∧ (noise.length + 4 ≤ i → m = noise.length) := by
  obtain ⟨hcap, -⟩ := (params_wf_iff s.params).mp hwf
  have hlen : (noise ++ encodeFrame x).length = noise.length + 40 := by
    rw [List.length_append, encodeFrame_length]
  induction i with
  | zero => exact ⟨0, s.resp, by rw [List.take_zero, waiting_nil hempty]; rfl, by omega⟩
  | succ i ih =>
    obtain ⟨m, r, hpushed, hm, hmi, hearly, hlate⟩ := ih (by omega)
    have hnext : (noise ++ encodeFrame x).take (i + 1) =
        (noise ++ encodeFrame x).take i ++ [(noise ++ encodeFrame x)[i]] :=
      (List.take_concat_get' _ i (by omega)).symm
    have htake : ((noise ++ encodeFrame x).take i).length = i := by
      rw [List.length_take, hlen]
      omega
    have hlenNext : (((noise ++ encodeFrame x).take (i + 1)).drop m).length = i + 1 - m := by
      rw [List.length_drop, List.length_take, hlen]
      omega
    have hcap' : (((noise ++ encodeFrame x).take i).drop m).length ≠ s.params.bufCap := by
      rw [List.length_drop, htake]
      omega
    by_cases hfour : i + 1 < noise.length + 4
    · have hnone := findMagic_stream_of_lt (m := m) x hnoise hfour
      rw [hnext] at hnone hlenNext
      have hexec := exec_push_waiting_of_none r hroom hcap' (by omega) hnone
      rw [hnext]
      exact ⟨_, _, pushAll_concat hpushed hexec, by omega⟩
    · have hk := findMagic_stream_of_ge x hnoise (Nat.le_of_not_lt hfour) hm
      rw [hnext] at hk hlenNext
      have hexec := exec_push_waiting_of_some r hroom hcap' (by omega) hk (by omega)
      rw [hnext]
      exact ⟨_, _, pushAll_concat hpushed hexec, by omega⟩

/-- The frame's last byte completes it: the attempt is OK, and with no snapshot the record is emitted (R110). -/
theorem exists_exec_of_last_byte {s : State} {x : FrameFields} {b : Byte} (hwf : s.params.wf = true)
    (hroom : s.outq.length ≠ s.params.outDepth) (hframe : s.buf ++ [b] = encodeFrame x) :
    ∃ t, exec (.wrPush (b.setWidth 32)) s = .next t ∧ t.buf = [] ∧ t.attempts = s.attempts + 1#32 ∧
      t.cnt.framesOk = s.cnt.framesOk + 1#32 ∧ t.cnt.discarded = s.cnt.discarded ∧
      t.diag.record = recordOf (encodeFrame x) s.cfg.validateCrc s.cfg.validateCrc true ∧
      (s.filt = none → t.outq = s.outq ++ [t.diag.record] ∧ t.filt = some (snap t.diag.record)) := by
  have hbyte : (b.setWidth 32).extractLsb' 0 8 = b := byteOperand_setWidth b
  have hpush := pushOfAGoodFrameEmitsOrSuppresses (b.setWidth 32) s
  simp only [hbyte, hframe] at hpush
  obtain ⟨hemit, hsuppress⟩ :=
    hpush hroom hwf (encodeFrame_length x) (encodeFrame_take_magic x) fun _ => encodeFrame_crc x
  have hattempts : s.cnt.framesOk + 1#32 + s.cnt.crcMismatch + s.cnt.badHeader = s.attempts + 1#32 := by
    rw [State.attempts]
    ring
  by_cases hunchanged : ∃ p, s.filt = some p ∧
      changed s.cfg (recordOf (encodeFrame x) s.cfg.validateCrc s.cfg.validateCrc true) p = false
  · refine ⟨_, hsuppress hunchanged, rfl, hattempts, rfl, rfl, rfl, fun hnone => ?_⟩
    obtain ⟨p, hp, -⟩ := hunchanged
    exact nomatch hnone.symm.trans hp
  · refine ⟨_, hemit ?_, rfl, hattempts, rfl, rfl, rfl, fun _ => ⟨rfl, rfl⟩⟩
    cases hfilt : s.filt with
    | none => exact .inl rfl
    | some p => exact .inr ⟨p, rfl, Bool.of_not_eq_false fun h => hunchanged ⟨p, hfilt, h⟩⟩

/-- Settles O50: the block waits up to the last byte, which completes the frame and nothing else. -/
theorem noiseThenOneFrameGivesOneRecord : Obligations.NoiseThenOneFrameGivesOneRecord := by
  unfold Obligations.NoiseThenOneFrameGivesOneRecord
  intro noise x s hwf hempty hqueue hnoise
  have hroom : s.outq.length ≠ s.params.outDepth := hqueue.ne
  have hlen : (noise ++ encodeFrame x).length = noise.length + 39 + 1 := by
    rw [List.length_append, encodeFrame_length]
  obtain ⟨m, r, hpushed, -, -, -, hlate⟩ :=
    exists_waiting x hwf hempty hroom hnoise (noise.length + 39) (Nat.le_refl _)
  obtain rfl : m = noise.length := hlate (by omega)
  have hlast : (noise ++ encodeFrame x).take (noise.length + 39) ++ [(noise ++ encodeFrame x)[noise.length + 39]] =
      noise ++ encodeFrame x := by
    rw [List.take_concat_get', List.take_of_length_le hlen.le]
  have hframe : ((noise ++ encodeFrame x).take (noise.length + 39)).drop noise.length ++
      [(noise ++ encodeFrame x)[noise.length + 39]] = encodeFrame x := by
    rw [← List.drop_append_of_le_length (by rw [List.length_take, hlen]; omega), hlast, List.drop_left]
  obtain ⟨t, hexec, hbuf, hattempts, hok, hdiscarded, hrecord, hemitted⟩ :=
    exists_exec_of_last_byte (s := waiting s _ noise.length r) hwf hroom hframe
  have hall := pushAll_concat hpushed hexec
  rw [hlast] at hall
  exact ⟨t, hall, hbuf, hattempts, hok, hdiscarded, hrecord, hemitted⟩

end Sys2Proof.Machine

/-! PROOF. O36: the rounding of sub64 is to nearest, ties to even (spec/00_scope.md R16). -/

namespace Sys2Proof.Machine

/-- The rounding with its quotient, remainder and choice written out (R16). -/
theorem roundUnits_eq (n : Nat) :
    roundUnits n =
      (if 2 ^ excessBits n < 2 * (n % 2 ^ excessBits n) ∨
          (2 ^ excessBits n = 2 * (n % 2 ^ excessBits n) ∧ n / 2 ^ excessBits n % 2 = 1)
        then n / 2 ^ excessBits n + 1 else n / 2 ^ excessBits n) * 2 ^ excessBits n := by
  simp only [roundUnits, Nat.shiftRight_eq_div_pow, Nat.shiftLeft_eq, Bool.or_eq_true, Bool.and_eq_true,
    decide_eq_true_eq]

/-- A multiple of the last place is exact. -/
theorem roundUnits_of_dvd {n : Nat} (h : 2 ^ excessBits n ∣ n) : roundUnits n = n := by
  have hpos := Nat.two_pow_pos (excessBits n)
  rw [roundUnits_eq, Nat.mod_eq_zero_of_dvd h, if_neg (by omega), Nat.div_mul_cancel h]

/-- A value of at most 53 bits, moved up by any number of places, is exact (R16). -/
theorem roundUnits_mul_two_pow {m : Nat} (hm : m < 2 ^ 53) (k : Nat) : roundUnits (m * 2 ^ k) = m * 2 ^ k := by
  obtain rfl | hpos := Nat.eq_zero_or_pos m
  · rw [Nat.zero_mul]
    rfl
  have hne : m * 2 ^ k ≠ 0 := (Nat.mul_pos hpos (Nat.two_pow_pos k)).ne'
  have hlog : Nat.log2 (m * 2 ^ k) < 53 + k := by
    rw [Nat.log2_lt hne, Nat.pow_add]
    exact Nat.mul_lt_mul_of_pos_right hm (Nat.two_pow_pos k)
  have hexcess : excessBits (m * 2 ^ k) ≤ k := by
    rw [excessBits]
    omega
  exact roundUnits_of_dvd ((Nat.pow_dvd_pow 2 hexcess).trans (Nat.dvd_mul_left _ _))

theorem roundUnits_of_lt {n : Nat} (h : n < 2 ^ 53) : roundUnits n = n := by
  simpa using roundUnits_mul_two_pow h 0

/-- How far `n` is from a multiple at or below it. -/
theorem distance_below (p k r d : Nat) :
    ((((p + k) * d + r : Nat) : Int) - (p * d : Nat)).natAbs = k * d + r := by
  rw [Nat.add_mul]
  omega

/-- How far `n` is from a multiple above it. -/
theorem distance_above (q k r d : Nat) (hr : r < d) :
    (((q * d + r : Nat) : Int) - ((q + 1 + k) * d : Nat)).natAbs = k * d + (d - r) := by
  rw [Nat.add_mul, Nat.add_mul, Nat.one_mul]
  omega

/-- Every multiple is `q` or lower, at its distance or more from below, or higher, at its distance or more from above. -/
theorem distance_cases (q r d p : Nat) (hr : r < d) :
    (p = q ∧ (((q * d + r : Nat) : Int) - (p * d : Nat)).natAbs = r) ∨
      (p < q ∧ d + r ≤ (((q * d + r : Nat) : Int) - (p * d : Nat)).natAbs) ∨
      (p = q + 1 ∧ (((q * d + r : Nat) : Int) - (p * d : Nat)).natAbs = d - r) ∨
      (q + 1 < p ∧ d + (d - r) ≤ (((q * d + r : Nat) : Int) - (p * d : Nat)).natAbs) := by
  obtain hlow | hhigh := Nat.lt_or_ge q p
  · obtain ⟨k, rfl⟩ := Nat.exists_eq_add_of_le (show q + 1 ≤ p from hlow)
    rw [distance_above q k r d hr]
    obtain rfl | hk := Nat.eq_zero_or_pos k
    · exact .inr (.inr (.inl ⟨rfl, by omega⟩))
    · have := Nat.le_mul_of_pos_left d hk
      exact .inr (.inr (.inr ⟨by omega, by omega⟩))
  · obtain ⟨k, rfl⟩ := Nat.exists_eq_add_of_le hhigh
    rw [distance_below p k r d]
    obtain rfl | hk := Nat.eq_zero_or_pos k
    · exact .inl ⟨rfl, by omega⟩
    · have := Nat.le_mul_of_pos_left d hk
      exact .inr (.inl ⟨by omega, by omega⟩)

/-- The quotient that the rounding chooses, for a value `q * d + r`. -/
def nearestQuotient (q r d : Nat) : Nat :=
  if d < 2 * r ∨ (d = 2 * r ∧ q % 2 = 1) then q + 1 else q

/-- No multiple is nearer than the chosen one, and where another is as near the chosen one is even (R16). -/
theorem nearestQuotient_nearest (q r d p : Nat) (hr : r < d) :
    (((q * d + r : Nat) : Int) - (nearestQuotient q r d * d : Nat)).natAbs ≤
        (((q * d + r : Nat) : Int) - (p * d : Nat)).natAbs ∧
      (p ≠ nearestQuotient q r d →
        (((q * d + r : Nat) : Int) - (nearestQuotient q r d * d : Nat)).natAbs =
          (((q * d + r : Nat) : Int) - (p * d : Nat)).natAbs → nearestQuotient q r d % 2 = 0) := by
  have hchosen := distance_cases q r d (nearestQuotient q r d) hr
  have hother := distance_cases q r d p hr
  revert hchosen hother
  generalize (((q * d + r : Nat) : Int) - (p * d : Nat)).natAbs = other
  generalize (((q * d + r : Nat) : Int) - (nearestQuotient q r d * d : Nat)).natAbs = chosen
  unfold nearestQuotient
  split_ifs with hup
  all_goals omega

/-- Settles O36: the chosen quotient is the nearest, and the excess bits place the value between the powers of a 53-bit
significand. -/
theorem roundingIsToNearestTiesToEven : Obligations.RoundingIsToNearestTiesToEven := by
  unfold Obligations.RoundingIsToNearestTiesToEven
  intro n
  refine ⟨roundUnits_of_lt, fun hn => ?rounded⟩
  case rounded =>
    obtain ⟨hlow, hhigh⟩ := excessBits_bounds n hn
    have hpos := Nat.two_pow_pos (excessBits n)
    have hr := Nat.mod_lt n hpos
    have hsplit : n / 2 ^ excessBits n * 2 ^ excessBits n + n % 2 ^ excessBits n = n := Nat.div_add_mod' n _
    have hnearest := fun p => nearestQuotient_nearest (n / 2 ^ excessBits n) (n % 2 ^ excessBits n) (2 ^ excessBits n) p hr
    rw [hsplit] at hnearest
    exact ⟨excessBits n, _, roundUnits_eq n, hlow, hhigh, fun p => (hnearest p).1, fun p => (hnearest p).2⟩

end Sys2Proof.Machine

/-! PROOF. O37, O39, O60: the differences of finite values and their comparison with a threshold (spec/43_filter.md section 2). -/

namespace Sys2Proof.Machine

/-- Rounding at most doubles a value, so it does not reach the overflow bound from far below it. -/
theorem roundUnits_le_two_mul (n : Nat) : roundUnits n ≤ 2 * n := by
  obtain hlt | hge := Nat.lt_or_ge n (2 ^ 53)
  · rw [roundUnits_of_lt hlt]
    omega
  · obtain ⟨hlow, -⟩ := excessBits_bounds n hge
    have hplace : 2 ^ excessBits n ≤ n := (Nat.pow_le_pow_right (by decide) (by omega)).trans hlow
    have hdown := Nat.div_mul_le_self n (2 ^ excessBits n)
    rw [roundUnits_eq]
    split_ifs
    · rw [Nat.add_mul, Nat.one_mul]
      omega
    · omega

/-- Rounding does not carry a value past the next power of 2. -/
theorem roundUnits_lt_two_pow {n e k : Nat} (h : n < 2 ^ e) (he : e < k) : roundUnits n < 2 ^ k := by
  have hdouble := roundUnits_le_two_mul n
  have hpow : 2 ^ (e + 1) ≤ 2 ^ k := Nat.pow_le_pow_right (by decide) he
  rw [Nat.pow_succ] at hpow
  omega

theorem mul_two_pow_lt {m a : Nat} (h : m < 2 ^ a) (k : Nat) : m * 2 ^ k < 2 ^ (a + k) := by
  rw [Nat.pow_add]
  exact Nat.mul_lt_mul_of_pos_right h (Nat.two_pow_pos k)

theorem lt_two_pow_of_le_add {m n d a k : Nat} (hm : m < 2 ^ a * 2 ^ k) (hn : n < 2 ^ a * 2 ^ k) (h : d ≤ m + n) :
    d < 2 ^ (a + k + 1) := by
  rw [Nat.pow_succ, Nat.pow_add]
  omega

/-- The absolute difference of two finite values, rounded once (R99). -/
theorem abs64_sub64_fin {a b : Bool} {m n : Nat}
    (h : roundUnits (signedUnits a m - signedUnits b n).natAbs < 2 ^ 2098) :
    abs64 (sub64 (.fin a m) (.fin b n)) = .fin false (roundUnits (signedUnits a m - signedUnits b n).natAbs) := by
  rw [sub64]
  by_cases hzero : signedUnits a m - signedUnits b n = 0
  · simp only [hzero, if_true]
    rfl
  · simp only [hzero, if_false, roundToF64, h, if_true]
    rfl

/-- A finite magnitude exceeds a finite threshold, of whatever sign, when its value does (R16, R100). -/
theorem gt64_fin_iff (m : Nat) {d : Dword} (hd : d.extractLsb' 52 11 ≠ 0x7FF#11) :
    gt64 (.fin false m) (f64 d) = true ↔ units64 d < (m : Int) := by
  obtain ⟨neg, n, hf, hunits⟩ := f64_of_finite d hd
  rw [hf, gt64, hunits, decide_eq_true_iff]
  rfl

/-- An integer in units of `2^-k` (R16). -/
theorem signedUnits_shifted (t : Int) (k : Nat) :
    signedUnits (decide (t < 0)) (t.natAbs <<< k) = t * (2 ^ k : Nat) := by
  rw [signedUnits_eq, Nat.shiftLeft_eq, Nat.cast_mul, ← mul_assoc]
  congr 1
  by_cases hneg : t < 0
  · simp only [hneg, decide_true, if_true]
    omega
  · simp only [hneg, decide_false, Bool.false_eq_true, if_false]
    omega

/-- The difference of two integers below `2^53` is exact, so it is not rounded (R101). -/
theorem abs64_sub64_i16to64 {t u : Int} (h : (t - u).natAbs < 2 ^ 53) :
    abs64 (sub64 (i16to64 t) (i16to64 u)) = .fin false ((t - u).natAbs * 2 ^ 1074) := by
  have hunits : (signedUnits (decide (t < 0)) (t.natAbs <<< 1074) -
      signedUnits (decide (u < 0)) (u.natAbs <<< 1074)).natAbs = (t - u).natAbs * 2 ^ 1074 := by
    rw [signedUnits_shifted, signedUnits_shifted, ← Int.sub_mul, Int.natAbs_mul, Int.natAbs_natCast]
  have hexact := roundUnits_mul_two_pow h 1074
  have hbound := roundUnits_lt_two_pow (k := 2098) (mul_two_pow_lt h 1074) (by decide)
  rw [i16to64, i16to64, abs64_sub64_fin (by rw [hunits]; exact hbound), hunits, hexact]

/-- The temperature difference is exact (R101). -/
theorem absDiffTemp_eq (t u : Half) : absDiffTemp t u = .fin false ((t.toInt - u.toInt).natAbs * 2 ^ 1074) := by
  have ht := BitVec.toInt_lt (x := t)
  have ht' := BitVec.le_toInt (x := t)
  have hu := BitVec.toInt_lt (x := u)
  have hu' := BitVec.le_toInt (x := u)
  exact abs64_sub64_i16to64 (t := t.toInt) (u := u.toInt) (by omega)

theorem mul_two_pow_lt_iff (m n k : Nat) : m * 2 ^ k < n * 2 ^ k ↔ m < n :=
  Nat.mul_lt_mul_right (Nat.two_pow_pos k)

/-- The default temperature threshold is 1 (R10). -/
theorem units64_defaultThrTemp : units64 0x3FF0000000000000#64 = ((1 * 2 ^ 1074 : Nat) : Int) := by
  decide +kernel

/-- Settles O37: the exact difference, held against the value of the threshold. -/
theorem temperatureDifferenceIsExact : Obligations.TemperatureDifferenceIsExact := by
  unfold Obligations.TemperatureDifferenceIsExact
  have hfinite : ∀ (c : Settings) (w : Record) (p : Snapshot), c.thrTemp.extractLsb' 52 11 ≠ 0x7FF#11 →
      (tempChanged c w p = true ↔
        units64 c.thrTemp < (((w.w8.extractLsb' 0 16).toInt - p.temp.toInt).natAbs * 2 ^ 1074 : Nat)) := by
    intro c w p hthr
    rw [tempChanged, absDiffTemp_eq]
    exact gt64_fin_iff _ hthr
  refine ⟨absDiffTemp_eq, hfinite, fun c w p hthr => ?default⟩
  case default =>
    rw [hfinite c w p (by rw [hthr]; decide), hthr, units64_defaultThrTemp, Nat.cast_lt]
    exact mul_two_pow_lt_iff 1 _ 1074

/-- Settles O39: against its own snapshot a record's temperature differs by `+0`, which a negative threshold does not bar. -/
theorem repeatedRecordIsNoChange : Obligations.RepeatedRecordIsNoChange := by
  unfold Obligations.RepeatedRecordIsNoChange
  intro c w
  refine ⟨changed_snap_self c w, fun hnegative => ?negative⟩
  case negative =>
    have hzero : absDiffTemp (w.w8.extractLsb' 0 16) (snap w).temp = .fin false 0 := by
      rw [absDiffTemp_eq, snap, Int.sub_self, Int.natAbs_zero, Nat.zero_mul]
    have htemp : tempChanged c w (snap w) = true := by
      rw [tempChanged, hzero]
      exact Bool.of_not_eq_false hnegative
    exact (changed_iff c w (snap w)).mpr (.inr (.inr htemp))

/-- The difference of two finite binary32 values, rounded once; it does not overflow (R99, R101). -/
theorem absDiff32_of_finite {a b : Word} (ha : a.extractLsb' 23 8 ≠ 0xFF#8) (hb : b.extractLsb' 23 8 ≠ 0xFF#8) :
    absDiff32 a b = .fin false (roundUnits (units32 a - units32 b).natAbs) := by
  obtain ⟨neg, m, hm, hunits, hbound⟩ := f32to64_of_finite a ha
  obtain ⟨neg', n, hn, hunits', hbound'⟩ := f32to64_of_finite b hb
  have hmagnitude : ∀ (x : Bool) (k : Nat), (signedUnits x k).natAbs = k := by
    intro x k
    cases x <;> simp [signedUnits]
  have hdiff : (signedUnits neg m - signedUnits neg' n).natAbs ≤ m + n := by
    have := Int.natAbs_sub_le (signedUnits neg m) (signedUnits neg' n)
    rwa [hmagnitude, hmagnitude] at this
  have hlt := roundUnits_lt_two_pow (k := 2098) (lt_two_pow_of_le_add hbound hbound' hdiff) (by decide)
  rw [absDiff32, hm, hn, abs64_sub64_fin hlt, hunits, hunits']

/-- Settles O60: the rounded difference, held against the value of the threshold, and the worked values by evaluation. -/
theorem axisDifferenceIsTheRoundedDifference : Obligations.AxisDifferenceIsTheRoundedDifference := by
  unfold Obligations.AxisDifferenceIsTheRoundedDifference
  refine ⟨fun a b ha hb => ⟨absDiff32_of_finite ha hb, fun d hd => ?threshold⟩, ?large, ?atThreshold, ?aboveThreshold⟩
  case threshold =>
    rw [absDiff32_of_finite ha hb]
    exact gt64_fin_iff _ hd
  case large => decide +kernel
  case atThreshold => decide +kernel
  case aboveThreshold => decide +kernel

end Sys2Proof.Machine

/-! PROOF. O38: the special values in the comparison (spec/43_filter.md R102). -/

namespace Sys2Proof.Machine

theorem sub64_nan_right (a : F64) : sub64 a .nan = .nan := by
  cases a <;> rfl

/-- A binary32 pattern with all exponent bits set and a fraction is a NaN (R16). -/
theorem f32to64_of_nan {w : Word} (he : w.extractLsb' 23 8 = 0xFF#8) (hfrac : w.extractLsb' 0 23 ≠ 0#23) :
    f32to64 w = .nan := by
  have hne : (w.extractLsb' 0 23).toNat ≠ 0 := fun h => hfrac (BitVec.eq_of_toNat_eq h)
  simp only [f32to64, he]
  rw [if_pos (by decide), if_neg hne]

/-- A binary64 pattern with all exponent bits set and a fraction is a NaN (R16). -/
theorem f64_of_nan {d : Dword} (he : d.extractLsb' 52 11 = 0x7FF#11) (hfrac : d.extractLsb' 0 52 ≠ 0#52) :
    f64 d = .nan := by
  have hne : (d.extractLsb' 0 52).toNat ≠ 0 := fun h => hfrac (BitVec.eq_of_toNat_eq h)
  simp only [f64, he]
  rw [if_pos (by decide), if_neg hne]

theorem absDiff32_of_nan {w q : Word} (h : f32to64 w = .nan ∨ f32to64 q = .nan) : absDiff32 w q = .nan := by
  obtain h | h := h
  · rw [absDiff32, h]
    rfl
  · rw [absDiff32, h, sub64_nan_right]
    rfl

/-- The pattern with the sign bit alone is -0. -/
theorem eq_minus_zero {d : Dword} (hsign : d.getLsbD 63 = true) (he : d.extractLsb' 52 11 = 0#11)
    (hfrac : d.extractLsb' 0 52 = 0#52) : d = 0x8000000000000000#64 := by
  have hbits : ∀ i < 64, (0x8000000000000000#64).getLsbD i = decide (i = 63) := by decide
  apply BitVec.eq_of_getLsbD_eq
  intro i hi
  rw [hbits i hi]
  obtain hlow | hmid | rfl : i < 52 ∨ (52 ≤ i ∧ i < 63) ∨ i = 63 := by omega
  · have hbit := congrArg (fun x : BitVec 52 => x.getLsbD i) hfrac
    simp only [BitVec.getLsbD_extractLsb', hlow, decide_true, Bool.true_and, Nat.zero_add, BitVec.getLsbD_zero] at hbit
    rw [hbit, decide_eq_false (by omega)]
  · have hbit := congrArg (fun x : BitVec 11 => x.getLsbD (i - 52)) he
    simp only [BitVec.getLsbD_extractLsb', show i - 52 < 11 by omega, decide_true, Bool.true_and,
      show 52 + (i - 52) = i by omega, BitVec.getLsbD_zero] at hbit
    rw [hbit, decide_eq_false (by omega)]
  · rw [hsign, decide_eq_true rfl]

/-- A negative threshold that is neither -0 nor a NaN is below zero (R102). -/
theorem f64_of_negative {d : Dword} (hsign : d.getLsbD 63 = true) (hzero : d ≠ 0x8000000000000000#64)
    (hnan : f64 d ≠ .nan) : f64 d = .inf true ∨ ∃ n, 0 < n ∧ f64 d = .fin true n := by
  have hdef : f64 d =
      if (d.extractLsb' 52 11).toNat = 2047 then (if (d.extractLsb' 0 52).toNat = 0 then .inf true else .nan)
      else if (d.extractLsb' 52 11).toNat = 0 then .fin true (d.extractLsb' 0 52).toNat
      else .fin true ((2 ^ 52 + (d.extractLsb' 0 52).toNat) <<< ((d.extractLsb' 52 11).toNat - 1)) := by
    rw [f64, hsign]
  rw [hdef] at hnan ⊢
  split_ifs at hnan ⊢ with hall hfrac hsub
  · exact .inl rfl
  · exact absurd rfl hnan
  · refine .inr ⟨_, Nat.pos_of_ne_zero fun hfrac => hzero ?_, rfl⟩
    exact eq_minus_zero hsign (BitVec.eq_of_toNat_eq hsub) (BitVec.eq_of_toNat_eq hfrac)
  · refine .inr ⟨_, ?_, rfl⟩
    rw [Nat.shiftLeft_eq]
    positivity

/-- The sign of an absolute difference is clear (R16). -/
theorem abs64_cases (a : F64) : abs64 a = .nan ∨ abs64 a = .inf false ∨ ∃ n, abs64 a = .fin false n := by
  cases a with
  | nan => exact .inl rfl
  | inf => exact .inr (.inl rfl)
  | fin _ n => exact .inr (.inr ⟨n, rfl⟩)

/-- Every absolute difference that is a number exceeds a threshold below zero (R102). -/
theorem gt64_abs64_of_negative {d : Dword} (hsign : d.getLsbD 63 = true) (hzero : d ≠ 0x8000000000000000#64)
    (hnan : f64 d ≠ .nan) (a : F64) : gt64 (abs64 a) (f64 d) = true ↔ abs64 a ≠ .nan := by
  obtain ha | ha | ⟨m, ha⟩ := abs64_cases a
  all_goals obtain hd | ⟨n, hn, hd⟩ := f64_of_negative hsign hzero hnan
  all_goals rw [ha, hd]
  all_goals simp [gt64, signedUnits]
  omega

/-- +infinity against a finite value differs by +infinity (R102). -/
theorem absDiff32_inf_of_finite {q : Word} (hq : q.extractLsb' 23 8 ≠ 0xFF#8) :
    absDiff32 0x7F800000#32 q = .inf false := by
  obtain ⟨neg, n, hn, -, -⟩ := f32to64_of_finite q hq
  rw [absDiff32, hn]
  rfl

theorem gt64_inf_iff (t : F64) : gt64 (.inf false) t = true ↔ t ≠ .nan ∧ t ≠ .inf false := by
  cases t with
  | nan => simp [gt64]
  | inf neg => cases neg <;> simp [gt64]
  | fin => simp [gt64]

/-- Settles O38, case by case of R102's list. -/
theorem specialValuesInTheComparison : Obligations.SpecialValuesInTheComparison := by
  unfold Obligations.SpecialValuesInTheComparison
  refine ⟨fun w q t hnan => ?nanOperand, fun t => ?sameInfinity, fun q t hq => ?infinity, fun w q d he hfrac => ?nanThreshold,
    fun w q d hsign hzero hnan => ?negative, ?zeros, ?zeros'⟩
  case nanOperand =>
    rw [absDiff32_of_nan (hnan.imp (fun ⟨he, hf⟩ => f32to64_of_nan he hf) fun ⟨he, hf⟩ => f32to64_of_nan he hf),
      gt64_nan_left]
  case sameInfinity =>
    have hdiff : absDiff32 0x7F800000#32 0x7F800000#32 = .nan := by decide
    rw [hdiff, gt64_nan_left]
  case infinity =>
    rw [absDiff32_inf_of_finite hq]
    exact gt64_inf_iff t
  case nanThreshold => rw [f64_of_nan he hfrac, gt64_nan_right]
  case negative => exact gt64_abs64_of_negative hsign hzero hnan _
  case zeros => decide
  case zeros' => decide

end Sys2Proof.Machine
